-- ==== Sys2Proof/Word.lean ====
section
/-! DEFINITION. Sys2Proof/Word.lean: the fixed widths of the block (00_scope.md R8) and the value types its payloads
are made of (R17). -/

namespace Sys2Proof

/-- A register address or a register value: 8 bits (R8). -/
abbrev Byte := BitVec 8

/-- A coordinate: 12 bits, unsigned (R8). -/
abbrev Coord := BitVec 12

/-- A device address on the two-wire bus: 7 bits (R8). -/
abbrev DevAddr := BitVec 7

/-- The transport's error detail, opaque to the block and passed through unmodified (60_exceptions.md R201, D27). The
block never looks inside; the token only tells one detail from another (log entry 6, DESIGN CHOICE). -/
structure BusErrDetail where
  token : Nat
deriving DecidableEq, Repr, Inhabited

/-- One touch record, decoded (R17). -/
structure TouchState where
  detected : Bool
  x : Coord
  y : Coord
  weight : Byte
  misc : Byte
deriving DecidableEq, Repr, Inhabited

/-- The two-slot multi-touch frame, decoded (R17). -/
structure MultiTouch where
  detected : Bool
  x : Vector Coord 2
  y : Vector Coord 2
  weight : Vector Byte 2
  area : Vector Byte 2
deriving DecidableEq, Repr, Inhabited

/-- The closed enumeration of gesture kinds (R17), in the order of 30_encoding.md R81. -/
inductive GestureKind where
  | none | up | right | down | left | zoomIn | zoomOut | fault
deriving DecidableEq, Repr, Inhabited

/-- The six tunable gesture-sensitivity parameters (R17), in the order of 30_encoding.md R89. -/
structure GestureInit where
  radian : Byte
  offsetLr : Byte
  offsetUd : Byte
  distanceLr : Byte
  distanceUd : Byte
  distanceZoom : Byte
deriving DecidableEq, Repr, Inhabited

/-- The capability descriptor (R17, 10_state.md R30). -/
structure Capabilities where
  multiTouch : Bool
  hwGesture : Bool
  maxTouches : Byte
  maxWidth : BitVec 16
  maxHeight : BitVec 16
deriving DecidableEq, Repr, Inhabited

/-- What the result register can hold: a command's result, or an error's information (30_encoding.md R80,
60_exceptions.md R201). `none` is the information of an error that carries nothing; `bytes []` is the empty payload
of a successful command (log entry 15). -/
inductive Payload where
  | none
  /-- raw bytes, in address order: READ_REG, READ_AFTER_WRITE, READ_LIB_VERSION, and `return []` -/
  | bytes (bs : List Byte)
  /-- one decoded or raw byte: the chip-ID, firmware-ID and device-mode commands -/
  | byte (b : Byte)
  | touch (t : TouchState)
  | multiTouch (m : MultiTouch)
  /-- a gesture kind in the 3-bit encoding of 30_encoding.md R81 -/
  | gesture (code : BitVec 3)
  /-- a touch count (DETECT_TOUCH) or a number of polls (CALIBRATE) -/
  | count (n : Nat)
  | point (x y : Coord)
  | gestureInit (g : GestureInit)
  | capabilities (c : Capabilities)
  | busError (detail : BusErrDetail)
  /-- the information of `ProtocolError`: the reason IdMismatch and the byte received -/
  | idMismatch (b : Byte)
deriving DecidableEq, Repr, Inhabited

end Sys2Proof
end

