-- ==== Sys2Proof/Config.lean ====
section
/-! DEFINITION. Sys2Proof/Config.lean: the configuration record `CFG` (00_scope.md R6), the constants the source gives
(R6, 70_reset_and_hazards.md R233: "not choices"), and the model's free values, each an opaque constant: nothing can
evaluate one or prove what it is. -/

namespace Sys2Proof

/-- `CFG.SAMPLE_DISCARD_POLICY` (R6): what a discarded gesture sample leaves (43_gesture.md R163). -/
inductive DiscardPolicy where
  | compact | slotKeep
deriving DecidableEq, Repr, Inhabited

/-- `CFG` (R6), fixed at construction and read-only afterwards. The constraints of R233 stand in the types: a 7-bit
device address, a GestureInit base of at most 0xFA, a poll budget of at least 1. The fields the spec chooses a value
for carry it as their default; the others are OPEN. -/
structure Config where
  devAddr : DevAddr
  maxWidth : BitVec 16
  maxHeight : BitVec 16
  chipIdExpected : Byte
  devModeBitMask : Byte
  devModeBitPosition : Byte
  devModeFactory : Byte
  devModeWorking : Byte
  gestureInitBase : Fin 251
  tdCountMask : Byte := 0xFF
  gestureFeature : Bool
  resetHelper : Bool
  sampleDiscardPolicy : DiscardPolicy := .compact
  coordPollBudget : Option { n : Nat // 1 ≤ n } := none
deriving DecidableEq, Repr, Inhabited

/-- The construction arguments as the host supplies them, before the check of R233. -/
structure ConfigArgs where
  devAddr : Nat
  maxWidth : BitVec 16
  maxHeight : BitVec 16
  chipIdExpected : Byte
  devModeBitMask : Byte
  devModeBitPosition : Byte
  devModeFactory : Byte
  devModeWorking : Byte
  gestureInitBase : Nat
  tdCountMask : Byte := 0xFF
  gestureFeature : Bool
  resetHelper : Bool
  sampleDiscardPolicy : DiscardPolicy := .compact
  coordPollBudget : Option Nat := none
deriving DecidableEq, Repr, Inhabited

/-! The constants the source gives (R6). -/

/-- `CFG.MAX_TOUCH` -/
def Config.maxTouch : Nat := 2
/-- `CFG.CAL_SETTLE_MS` -/
def Config.calSettleMs : Nat := 300
/-- `CFG.CAL_POLL_MS` -/
def Config.calPollMs : Nat := 200
/-- `CFG.CAL_MAX_ATTEMPTS` -/
def Config.calMaxAttempts : Nat := 100
/-- `CFG.GESTURE_SAMPLES` -/
def Config.gestureSamples : Nat := 19
/-- `CFG.GESTURE_BOUND` -/
def Config.gestureBound : Nat := 100
/-- `CFG.RESET_PULSE_MS` -/
def Config.resetPulseMs : Nat := 10

/-! The OPEN fields of the machine that `State.reset` constructs (log entry 1, DESIGN CHOICE): the source gives none of
them a value, and neither does the model. -/

opaque Config.openDevAddr : DevAddr
opaque Config.openMaxWidth : BitVec 16
opaque Config.openMaxHeight : BitVec 16
opaque Config.openChipIdExpected : Byte
opaque Config.openDevModeBitMask : Byte
opaque Config.openDevModeBitPosition : Byte
opaque Config.openDevModeFactory : Byte
opaque Config.openDevModeWorking : Byte
opaque Config.openGestureInitBase : Fin 251
opaque Config.openGestureFeature : Bool
opaque Config.openResetHelper : Bool

/-- The configuration of `State.reset`: OPEN fields open, the others at the spec's choice (R6). -/
def Config.built : Config where
  devAddr := Config.openDevAddr
  maxWidth := Config.openMaxWidth
  maxHeight := Config.openMaxHeight
  chipIdExpected := Config.openChipIdExpected
  devModeBitMask := Config.openDevModeBitMask
  devModeBitPosition := Config.openDevModeBitPosition
  devModeFactory := Config.openDevModeFactory
  devModeWorking := Config.openDevModeWorking
  gestureInitBase := Config.openGestureInitBase
  gestureFeature := Config.openGestureFeature
  resetHelper := Config.openResetHelper

/-! Free values: the draws of the oracle (20_memory.md R55), of the reset pin (00_scope.md R13) and of the sample
window (43_gesture.md R163), each applied to the number of the draw (log entries 3, 5 and 12). -/

/-- Does the transaction of draw `n` fail, and with which detail? -/
opaque Config.freeBusError : Nat → Option BusErrDetail
/-- Byte `i` of the draw `n`. -/
opaque Config.freeByte : Nat → Nat → Byte
/-- Does the pin write of draw `n` fail? -/
opaque Config.freePinFails : Nat → Bool
/-- The x value left in slot `i` of the sample window by the draw `n`. -/
opaque Config.freeSampleX : Nat → Nat → Coord
/-- The y value left in slot `i` of the sample window by the draw `n`. -/
opaque Config.freeSampleY : Nat → Nat → Coord

end Sys2Proof
end

