-- ==== Sys2Proof/Syntax.lean ====
section
/-! DEFINITION. Sys2Proof/Syntax.lean: the 24 commands of 30_encoding.md R75, one constructor per row of
spec/opcode_table.json, with the operand fields of R71 and R73. -/

namespace Sys2Proof

/-- A command of the block. The operand `len` of WRITE_REG is the length of its data (R71 format W, R79). -/
inductive Instr where
  | readReg (addr : Byte)
  | writeReg (addr : Byte) (data : List Byte)
  | readAfterWrite (addr len : Byte)
  | decodeTouch (b0 b1 b2 b3 b4 b5 : Byte)
  | decodeMultitouch (b0 b1 b2 b3 b4 b5 b6 b7 b8 b9 b10 b11 : Byte)
  | decodeGesture (b0 : Byte)
  | decodeChipId (b0 : Byte)
  | decodeDevMode (b0 : Byte)
  | readDevMode
  | readGestureId
  | detectTouch
  | readTouch (slot : Byte)
  | readMultitouch
  | readChipId
  | readFirmwareId
  | readLibVersion
  | calibrate
  | getCoordinates
  | gestureDetect
  | giRead
  | giSet (b0 b1 b2 b3 b4 b5 : Byte)
  | giWrite
  | getCapabilities
  | hardReset
deriving DecidableEq, Repr

end Sys2Proof
end

