-- ==== Sys2Proof/Machine/State.lean ====
section
/-! DEFINITION. Sys2Proof/Machine/State.lean: everything the spec gives the block (10_state.md), its configuration, and
the world at its four ports as plain data, with the reset state (10_state.md section 9). -/

namespace Sys2Proof.Machine

/-- Why the machine stops. An error of a command is NOT a fault: it is a normal outcome (60_exceptions.md R220). -/
inductive Fault where
  /-- A command is executed while another one runs. Raised by every meaning. The host has no such move (00_scope.md
  R10, 70_reset_and_hazards.md R239), and `step` makes none from a state that a run reaches. Safe: the model stops
  where the spec gives no meaning. -/
  | portBusy
deriving DecidableEq, Repr

/-- What the model has no meaning for. -/
inductive Refusal where
  /-- Raised by an arm of `exec` whose command has no meaning yet. No arm raises it. Safe. -/
  | notModelled (mnemonic : String)
  /-- Raised by `construct`, for construction arguments that break 70_reset_and_hazards.md R233 ("a model refuses
  it"). Safe. -/
  | invalidConfig
deriving DecidableEq, Repr

/-- The level the block drives the reset pin to (00_scope.md R13). -/
inductive Level where
  | low | high
deriving DecidableEq, Repr

/-- The outcome of a bus write in the history (10_state.md R32). -/
inductive WriteOutcome where
  | ok | err (detail : BusErrDetail)
deriving DecidableEq, Repr

/-- The outcome of a bus write-then-read in the history (10_state.md R32). -/
inductive ReadOutcome where
  | ok (bytes : List Byte) | err (detail : BusErrDetail)
deriving DecidableEq, Repr

/-- The outcome of a pin write (00_scope.md R13). -/
inductive PinOutcome where
  | ok | err
deriving DecidableEq, Repr

/-- The events of the history (10_state.md R32). -/
inductive Event where
  | busWrite (dev : DevAddr) (bytes : List Byte) (outcome : WriteOutcome)
  | busWriteRead (dev : DevAddr) (wbytes : List Byte) (n : Nat) (outcome : ReadOutcome)
  | delay (ms : Nat)
  | pin (level : Level) (outcome : PinOutcome)
  | sampleDiscarded (iteration : Nat)
  | commandEnd (status : Byte)
deriving DecidableEq, Repr

/-- The sequencer position, the block's program counter (10_state.md R22). -/
inductive Seq where
  | idle
  /-- the command that runs, and how many interface transfers it has completed -/
  | busy (cmd : Instr) (k : Nat)
deriving DecidableEq, Repr

/-- An answer of the oracle to one bus transaction (20_memory.md R55): the bytes, or a failure with its detail. -/
inductive BusAnswer where
  | ok (bytes : List Byte) | err (detail : BusErrDetail)
deriving DecidableEq, Repr

/-- The world at the block's ports (10_state.md R21), the model's own field (log entries 3, 5 and 7). -/
structure Env where
  /-- the command words the host has yet to send, first to be sent first (00_scope.md R10) -/
  words : List (List Byte)
  /-- the oracle's next answers, one for each bus transaction -/
  busScript : List BusAnswer
  /-- once the script is used up: `some a` answers every transaction with `a`; `none` answers with free draws -/
  busTail : Option BusAnswer
  /-- the reset pin's next outcomes; once used up, outcomes are free draws -/
  pinScript : List PinOutcome
  /-- how many draws have been made: it numbers the free values -/
  draws : Nat
deriving DecidableEq, Repr

/-- The state of the block (10_state.md R20), its configuration and its ports. -/
structure State where
  /-- `CFG` (00_scope.md R6), read-only -/
  cfg : Config
  /-- `SEQ` (R22) -/
  seq : Seq
  /-- the model's own (log entry 9): the count poll of 42_calibration.md R146 has ended and the record read is next -/
  recordDue : Bool
  /-- `STATUS` (R23) -/
  status : BitVec 8
  /-- `RESULT` (R23) -/
  result : Payload
  /-- `CAL_STATE` (R25) -/
  calState : BitVec 3
  /-- `CAL_ATTEMPT` (R26) -/
  calAttempt : BitVec 7
  /-- `GI_CACHE[0..6]` (R27) -/
  giCache : Vector Byte 6
  /-- `GI_VALID` (R27) -/
  giValid : Bool
  /-- `SMP_X[0..19]` (R28) -/
  smpX : Vector Coord 19
  /-- `SMP_Y[0..19]` (R28) -/
  smpY : Vector Coord 19
  /-- `SMP_OK[0..19]`, entry `i` in bit `i` (R28) -/
  smpOk : BitVec 19
  /-- `SMP_N` (R28) -/
  smpN : BitVec 5
  /-- `SMP_ITER` (R28) -/
  smpIter : BitVec 5
  /-- `COORD_POLLS` (R29), unbounded -/
  coordPolls : Nat
  /-- `CAP` (R30), read-only -/
  cap : Capabilities
  /-- `HIST` (R32), oldest first -/
  hist : List Event
  env : Env
deriving DecidableEq, Repr

/-- The constant of 10_state.md R30. -/
def capabilitiesOf (c : Config) : Capabilities :=
  { multiTouch := true, hwGesture := false, maxTouches := 2, maxWidth := c.maxWidth, maxHeight := c.maxHeight }

/-- The world at reset: no word sent, no answer scripted. -/
def Env.initial : Env :=
  { words := [], busScript := [], busTail := none, pinScript := [], draws := 0 }

/-- The block right after its construction with `c` (10_state.md section 9, 70_reset_and_hazards.md R230). A register
with "no value" holds zero (log entry 2, DESIGN CHOICE). -/
def State.ofConfig (c : Config) : State where
  cfg := c
  seq := .idle
  recordDue := false
  status := 0
  result := .none
  calState := 0
  calAttempt := 0
  giCache := Vector.replicate 6 0
  giValid := false
  smpX := Vector.replicate 19 0
  smpY := Vector.replicate 19 0
  smpOk := 0
  smpN := 0
  smpIter := 0
  coordPolls := 0
  cap := capabilitiesOf c
  hist := []
  env := Env.initial

/-- The machine right after reset, with every OPEN field of its configuration left open (log entry 1). -/
def State.reset : State :=
  State.ofConfig Config.built

end Sys2Proof.Machine
end

