-- ==== Sys2Proof/Machine/Flags.lean ====
section
/-! DEFINITION. Sys2Proof/Machine/Flags.lean: the block has no condition codes; its only flags are fields of payloads
(10_state.md R24). The Boolean fields of the capabilities are in the constant `capabilitiesOf` (R30). -/

namespace Sys2Proof.Machine

/-- The `detected` flag of a decoded record: `true` unconditionally (41_decoder.md R110, R111). -/
def detectedFlag : Bool := true

end Sys2Proof.Machine
end

