-- ==== Sys2Proof/Machine/Decoders.lean ====
section
/-! DEFINITION. Sys2Proof/Machine/Decoders.lean: the decode functions (41_decoder.md section 1), pure functions of bytes
and of the configuration (R116), over the layouts of 30_encoding.md part B. -/

namespace Sys2Proof.Machine

/-- `coord(h, l)`: the low nibble of the high byte above the low byte (30_encoding.md R83). -/
def coord (h l : Byte) : Coord :=
  ((h &&& 0x0F).setWidth 12) <<< 8 ||| l.setWidth 12

/-- `decodeTouch(buf)` (R110). -/
def decodeTouch (buf : Vector Byte 6) : TouchState where
  detected := detectedFlag
  x := coord buf[0] buf[1]
  y := coord buf[2] buf[3]
  weight := buf[4]
  misc := buf[5]

/-- `buf[6s .. 6s + 6]`: the touch record of slot `s` in the multi-touch frame (30_encoding.md R84). -/
def frameSlot (buf : Vector Byte 12) (s : Fin 2) : Vector Byte 6 :=
  Vector.ofFn fun i => buf[6 * s.val + i.val]

/-- `decodeMultiTouch(buf)` (R111). -/
def decodeMultiTouch (buf : Vector Byte 12) : MultiTouch where
  detected := detectedFlag
  x := Vector.ofFn fun s => (decodeTouch (frameSlot buf s)).x
  y := Vector.ofFn fun s => (decodeTouch (frameSlot buf s)).y
  weight := Vector.ofFn fun s => (decodeTouch (frameSlot buf s)).weight
  area := Vector.ofFn fun s => (decodeTouch (frameSlot buf s)).misc

/-- `decodeGesture(code)`: exact match against seven codes (R112, 90_conflicts.md C1). -/
def decodeGesture (code : Byte) : GestureKind :=
  match code.toNat with
  | 0x00 => .none
  | 0x10 => .up
  | 0x14 => .right
  | 0x18 => .down
  | 0x1C => .left
  | 0x48 => .zoomIn
  | 0x49 => .zoomOut
  | _ => .fault

/-- The 3-bit encoding of a gesture kind (30_encoding.md R81). -/
def gestureCode : GestureKind → BitVec 3
  | .none => 0
  | .up => 1
  | .right => 2
  | .down => 3
  | .left => 4
  | .zoomIn => 5
  | .zoomOut => 6
  | .fault => 7

/-- `decodeChipId(b)`: the byte, or the mismatch with the byte (R113). -/
def decodeChipId (c : Config) (b : Byte) : Except Byte Byte :=
  if b = c.chipIdExpected then .ok b else .error b

/-- `decodeDevMode(b)`: two ANDs in this order and no shift (R114). -/
def decodeDevMode (c : Config) (b : Byte) : Byte :=
  (b &&& c.devModeBitMask) &&& c.devModeBitPosition

/-- `clampCount(b)`: the masked touch count, or 0 if it is above the maximum (42_calibration.md R145). -/
def clampCount (c : Config) (b : Byte) : Nat :=
  let count := (b &&& c.tdCountMask).toNat
  if count ≤ Config.maxTouch then count else 0

/-- The six bytes as a GestureInit record (30_encoding.md R89). -/
def gestureInitOf (b : Vector Byte 6) : GestureInit where
  radian := b[0]
  offsetLr := b[1]
  offsetUd := b[2]
  distanceLr := b[3]
  distanceUd := b[4]
  distanceZoom := b[5]

end Sys2Proof.Machine
end

