-- ==== Sys2Proof/WellFormed.lean ====
section
/-! DEFINITION. Sys2Proof/WellFormed.lean: which commands a command word can carry (30_encoding.md R71) and which of
those pass the operand range checks (R74). -/

namespace Sys2Proof

/-- Every operand fits its field: the byte count of format W is one byte (R71). -/
def Instr.encodable : Instr → Bool
  | .writeReg _ data => data.length < 256
  | _ => true

/-- The operand range checks of R74. -/
def Instr.operandsInRange : Instr → Bool
  | .writeReg addr data => 1 ≤ data.length && addr.toNat + data.length ≤ 256
  | .readAfterWrite addr len => 1 ≤ len.toNat && addr.toNat + len.toNat ≤ 256
  | .readTouch slot => slot.toNat < 2
  | _ => true

/-- A command some word carries and whose operands are in range. A command that is encodable but out of range still
has a meaning: it ends IllegalCommand (R74). -/
def Instr.wellFormed (i : Instr) : Bool :=
  i.encodable && i.operandsInRange

end Sys2Proof
end

