-- ==== Sys2Proof/Decode.lean ====
section
/-! DEFINITION. Sys2Proof/Decode.lean: from a command word to a command and back (30_encoding.md R70 to R73, R75, R76,
R78). Decoding checks the opcode and the length; the feature and range checks come after it (60_exceptions.md R212)
and are part of the commands' meanings (log entry 11). -/

namespace Sys2Proof

/-- Why a word is no command (R72, R76). The block answers each with the status IllegalCommand. -/
inductive DecodeError where
  | emptyWord
  | unassignedOpcode (op : Byte)
  | wrongLength (op : Byte)
deriving DecidableEq, Repr

/-- The formats of R71. -/
inductive Format where
  | N | R | A | W | S | B1 | B6 | B12
deriving DecidableEq, Repr

/-- The opcode column of R75. -/
def Instr.opcode : Instr → Byte
  | .readReg _ => 0x01
  | .writeReg _ _ => 0x02
  | .readAfterWrite _ _ => 0x03
  | .decodeTouch _ _ _ _ _ _ => 0x10
  | .decodeMultitouch _ _ _ _ _ _ _ _ _ _ _ _ => 0x11
  | .decodeGesture _ => 0x12
  | .decodeChipId _ => 0x13
  | .decodeDevMode _ => 0x14
  | .readDevMode => 0x20
  | .readGestureId => 0x21
  | .detectTouch => 0x22
  | .readTouch _ => 0x23
  | .readMultitouch => 0x24
  | .readChipId => 0x25
  | .readFirmwareId => 0x26
  | .readLibVersion => 0x27
  | .calibrate => 0x30
  | .getCoordinates => 0x31
  | .gestureDetect => 0x32
  | .giRead => 0x40
  | .giSet _ _ _ _ _ _ => 0x41
  | .giWrite => 0x42
  | .getCapabilities => 0x43
  | .hardReset => 0x50

/-- The format column of R75, by opcode; `none` for an unassigned opcode (R76). -/
def formatOf (op : Byte) : Option Format :=
  match op.toNat with
  | 0x01 => some .R
  | 0x02 => some .W
  | 0x03 => some .A
  | 0x10 | 0x41 => some .B6
  | 0x11 => some .B12
  | 0x12 | 0x13 | 0x14 => some .B1
  | 0x23 => some .S
  | 0x20 | 0x21 | 0x22 | 0x24 | 0x25 | 0x26 | 0x27 => some .N
  | 0x30 | 0x31 | 0x32 => some .N
  | 0x40 | 0x42 | 0x43 | 0x50 => some .N
  | _ => none

/-- The length column of R71, in bytes; `len` is byte 2 of the word, which only format W counts. -/
def Format.wordLength (len : Nat) : Format → Nat
  | .N => 1
  | .R | .S | .B1 => 2
  | .A => 3
  | .W => 3 + len
  | .B6 => 7
  | .B12 => 13

/-- The operands of a word of format N: none. -/
def operandsN (op : Byte) (i : Instr) : List Byte → Except DecodeError Instr
  | [] => .ok i
  | _ => .error (.wrongLength op)

/-- The operand of a word of format R, S or B1: byte 1. -/
def operandsOne (op : Byte) (f : Byte → Instr) : List Byte → Except DecodeError Instr
  | [b] => .ok (f b)
  | _ => .error (.wrongLength op)

/-- The operands of a word of format A: `addr`, `len`. -/
def operandsA (op : Byte) (f : Byte → Byte → Instr) : List Byte → Except DecodeError Instr
  | [addr, len] => .ok (f addr len)
  | _ => .error (.wrongLength op)

/-- The operands of a word of format W: `addr`, `len`, and exactly `len` data bytes (R72). -/
def operandsW (op : Byte) (f : Byte → List Byte → Instr) : List Byte → Except DecodeError Instr
  | addr :: len :: data => if data.length = len.toNat then .ok (f addr data) else .error (.wrongLength op)
  | _ => .error (.wrongLength op)

/-- The operands of a word of format B6: `b0` to `b5`. -/
def operandsB6 (op : Byte) (f : Byte → Byte → Byte → Byte → Byte → Byte → Instr) :
    List Byte → Except DecodeError Instr
  | [b0, b1, b2, b3, b4, b5] => .ok (f b0 b1 b2 b3 b4 b5)
  | _ => .error (.wrongLength op)

/-- The operands of a word of format B12: `b0` to `b11`. -/
def operandsB12 (op : Byte)
    (f : Byte → Byte → Byte → Byte → Byte → Byte → Byte → Byte → Byte → Byte → Byte → Byte → Instr) :
    List Byte → Except DecodeError Instr
  | [b0, b1, b2, b3, b4, b5, b6, b7, b8, b9, b10, b11] => .ok (f b0 b1 b2 b3 b4 b5 b6 b7 b8 b9 b10 b11)
  | _ => .error (.wrongLength op)

/-- The command of a word with opcode `op` and the bytes `args` after it (R75, R76). -/
def decodeOpcode (op : Byte) (args : List Byte) : Except DecodeError Instr :=
  match op.toNat with
  | 0x01 => operandsOne op .readReg args
  | 0x02 => operandsW op .writeReg args
  | 0x03 => operandsA op .readAfterWrite args
  | 0x10 => operandsB6 op .decodeTouch args
  | 0x11 => operandsB12 op .decodeMultitouch args
  | 0x12 => operandsOne op .decodeGesture args
  | 0x13 => operandsOne op .decodeChipId args
  | 0x14 => operandsOne op .decodeDevMode args
  | 0x20 => operandsN op .readDevMode args
  | 0x21 => operandsN op .readGestureId args
  | 0x22 => operandsN op .detectTouch args
  | 0x23 => operandsOne op .readTouch args
  | 0x24 => operandsN op .readMultitouch args
  | 0x25 => operandsN op .readChipId args
  | 0x26 => operandsN op .readFirmwareId args
  | 0x27 => operandsN op .readLibVersion args
  | 0x30 => operandsN op .calibrate args
  | 0x31 => operandsN op .getCoordinates args
  | 0x32 => operandsN op .gestureDetect args
  | 0x40 => operandsN op .giRead args
  | 0x41 => operandsB6 op .giSet args
  | 0x42 => operandsN op .giWrite args
  | 0x43 => operandsN op .getCapabilities args
  | 0x50 => operandsN op .hardReset args
  | _ => .error (.unassignedOpcode op)

/-- The decoder: the command a whole word carries (R70), or the reason it carries none. -/
def decode : List Byte → Except DecodeError Instr
  | [] => .error .emptyWord
  | op :: args => decodeOpcode op args

/-- The bytes after the opcode (R71). -/
def Instr.operandBytes : Instr → List Byte
  | .readReg addr => [addr]
  | .writeReg addr data => addr :: BitVec.ofNat 8 data.length :: data
  | .readAfterWrite addr len => [addr, len]
  | .decodeTouch b0 b1 b2 b3 b4 b5 => [b0, b1, b2, b3, b4, b5]
  | .decodeMultitouch b0 b1 b2 b3 b4 b5 b6 b7 b8 b9 b10 b11 => [b0, b1, b2, b3, b4, b5, b6, b7, b8, b9, b10, b11]
  | .decodeGesture b0 => [b0]
  | .decodeChipId b0 => [b0]
  | .decodeDevMode b0 => [b0]
  | .readTouch slot => [slot]
  | .giSet b0 b1 b2 b3 b4 b5 => [b0, b1, b2, b3, b4, b5]
  | .readDevMode | .readGestureId | .detectTouch | .readMultitouch | .readChipId | .readFirmwareId => []
  | .readLibVersion | .calibrate | .getCoordinates | .gestureDetect => []
  | .giRead | .giWrite | .getCapabilities | .hardReset => []

/-- The encoder: the word of a command (R71, R75). -/
def encode (i : Instr) : List Byte :=
  i.opcode :: i.operandBytes

/-- The whole bytes of a number of `nbits` bits, byte 0 from its least significant bits. -/
def bytesOfNat (nbits w : Nat) : List Byte :=
  (List.range ((nbits + 7) / 8)).map fun i => BitVec.ofNat 8 (w / 2 ^ (8 * i))

/-- How long a word that begins with these bytes is (R71, R78); an unassigned opcode has no format, and the bytes stand
as they are. -/
def wordLengthOf : List Byte → Nat
  | [] => 0
  | op :: args =>
    match formatOf op with
    | some f => f.wordLength (((args[1]?).getD 0).toNat)
    | none => args.length + 1

/-- The word whose first `nbits` bits are `w` and whose other bits are 0: zero bytes up to the length its own opcode
(and, in format W, its own byte 2) gives it (log entry 19). -/
def tableWord (nbits w : Nat) : List Byte :=
  let bs := bytesOfNat nbits w
  bs ++ List.replicate (wordLengthOf bs - bs.length) 0

/-- The command the decoder reads from the word of `tableWord`. -/
def decodeTableWord (nbits w : Nat) : Option Instr :=
  match decode (tableWord nbits w) with
  | .ok i => some i
  | .error _ => none

end Sys2Proof
end

