-- ==== Sys2Proof/Machine/Errors.lean ====
section
/-! DEFINITION. Sys2Proof/Machine/Errors.lean: the status codes and what each error carries (60_exceptions.md R200,
R201). -/

namespace Sys2Proof.Machine

/-- The nine names of R200. -/
inductive Status where
  | ok | busError | protocolError | calibrationTimeout | sampleDiscarded | pinError | illegalCommand | cacheEmpty
  | pollBudgetExhausted
deriving DecidableEq, Repr

/-- The code column of R200. -/
def Status.code : Status → Byte
  | .ok => 0x00
  | .busError => 0x01
  | .protocolError => 0x02
  | .calibrationTimeout => 0x03
  | .sampleDiscarded => 0x04
  | .pinError => 0x05
  | .illegalCommand => 0x06
  | .cacheEmpty => 0x07
  | .pollBudgetExhausted => 0x08

/-- The errors a command can end with, each with its information (R201). SampleDiscarded is not one of them: it is an
event only (R206). -/
inductive CmdError where
  | busError (detail : BusErrDetail)
  | protocolError (b : Byte)
  | calibrationTimeout
  | pinError
  | illegalCommand
  | cacheEmpty
  | pollBudgetExhausted
deriving DecidableEq, Repr

/-- The status of an error (R200). -/
def CmdError.status : CmdError → Status
  | .busError _ => .busError
  | .protocolError _ => .protocolError
  | .calibrationTimeout => .calibrationTimeout
  | .pinError => .pinError
  | .illegalCommand => .illegalCommand
  | .cacheEmpty => .cacheEmpty
  | .pollBudgetExhausted => .pollBudgetExhausted

/-- The payload of a failed command: its error's information and nothing else (R201). -/
def CmdError.info : CmdError → Payload
  | .busError d => .busError d
  | .protocolError b => .idMismatch b
  | _ => .none

end Sys2Proof.Machine
end

