-- ==== Sys2Proof/Machine/Ops.lean ====
section
/-! DEFINITION. Sys2Proof/Machine/Ops.lean: the primitives every command is written in (00_scope.md R16): the ends of a
command, the interface transfers, the sequencer, the command port, construction. -/

namespace Sys2Proof.Machine

/-! ## The history and the end of a command -/

/-- `emit Event(...)` (R16). -/
def State.emit (s : State) (e : Event) : State :=
  { s with hist := s.hist ++ [e] }

/-- How every command ends (10_state.md R22, R23; 60_exceptions.md R204): both output registers are written, the
sequencer is idle, and `CommandEnd(status)` is appended. Nothing else changes. -/
def State.endCommand (s : State) (status : Status) (payload : Payload) : State :=
  { s with seq := .idle, status := status.code, result := payload, hist := s.hist ++ [.commandEnd status.code] }

/-- `return v` (R16). -/
def State.ret (s : State) (payload : Payload) : State :=
  s.endCommand .ok payload

/-- `raise E(info)` (R16): TAKING AN ERROR (60_exceptions.md R204, R213). The command stops where it is; what it wrote
stays written; nothing is saved and nothing is vectored to. There is no return from an error (R214). -/
def State.raise (s : State) (e : CmdError) : State :=
  s.endCommand e.status e.info

/-! ## The bus port -/

/-- What a bus transaction that reads `n` bytes answers (20_memory.md R55, R61): exactly `n` bytes, or a failure. -/
inductive BusReply (n : Nat) where
  | ok (bytes : Vector Byte n) | err (detail : BusErrDetail)
deriving DecidableEq, Repr

/-- The outcome a reply leaves in the history. -/
def BusReply.outcome {n : Nat} : BusReply n → ReadOutcome
  | .ok bytes => .ok bytes.toList
  | .err d => .err d

/-- `n` bytes of the draw number `draw`: the given ones, and free values where the answer gives too few. -/
def drawBytes (given : List Byte) (draw n : Nat) : Vector Byte n :=
  Vector.ofFn fun i => given.getD i (Config.freeByte draw i)

/-- An answer the oracle draws freely. -/
def freeBusAnswer (draw : Nat) : BusAnswer :=
  match Config.freeBusError draw with
  | some d => .err d
  | none => .ok []

/-- The oracle's answer to the next transaction: scripted, or the tail's, or free (20_memory.md R55; log entry 3). -/
def State.nextBusAnswer (s : State) : BusAnswer :=
  match s.env.busScript with
  | a :: _ => a
  | [] =>
    match s.env.busTail with
    | some a => a
    | none => freeBusAnswer s.env.draws

/-- What the next transaction answers if it is a write-then-read of `n` bytes. -/
def State.busReply (s : State) (n : Nat) : BusReply n :=
  match s.nextBusAnswer with
  | .ok given => .ok (drawBytes given s.env.draws n)
  | .err d => .err d

/-- What the next transaction answers if it is a write. -/
def State.writeReply (s : State) : WriteOutcome :=
  match s.nextBusAnswer with
  | .ok _ => .ok
  | .err d => .err d

/-- The world once the oracle has answered a transaction. -/
def Env.afterBus (e : Env) : Env :=
  { e with busScript := e.busScript.tail, draws := e.draws + 1 }

/-- The state once `MemRead(addr, n)` is made: one event, whatever the reply (R16, 10_state.md R32). -/
def State.afterRead (s : State) (addr : Byte) (n : Nat) : State :=
  { s with
    env := s.env.afterBus
    hist := s.hist ++ [.busWriteRead s.cfg.devAddr [addr] n (s.busReply n).outcome] }

/-- The state once `MemWrite(addr, data)` is made. -/
def State.afterWrite (s : State) (addr : Byte) (data : List Byte) : State :=
  { s with
    env := s.env.afterBus
    hist := s.hist ++ [.busWrite s.cfg.devAddr (addr :: data) s.writeReply] }

/-- `MemRead(addr, n)`, then the rest of the command; a failure raises `BusError(detail)` (R16, 40_transport.md R103). -/
def State.readThen (s : State) (addr : Byte) (n : Nat) (rest : Vector Byte n → State → State) : State :=
  match s.busReply n with
  | .ok bytes => rest bytes (s.afterRead addr n)
  | .err d => (s.afterRead addr n).raise (.busError d)

/-- `MemWrite(addr, data)`, then the rest of the command; a failure raises `BusError(detail)` (R16). -/
def State.writeThen (s : State) (addr : Byte) (data : List Byte) (rest : State → State) : State :=
  match s.writeReply with
  | .ok => rest (s.afterWrite addr data)
  | .err d => (s.afterWrite addr data).raise (.busError d)

/-! ## The delay port and the reset-pin port -/

/-- `Delay(ms)` (R16): it always completes, and only the event shows it (70_reset_and_hazards.md R242). -/
def State.delay (s : State) (ms : Nat) : State :=
  s.emit (.delay ms)

/-- The outcome of the next pin write: scripted, or free (00_scope.md R13; log entry 5). -/
def State.pinReply (s : State) : PinOutcome :=
  match s.env.pinScript with
  | o :: _ => o
  | [] => if Config.freePinFails s.env.draws then .err else .ok

/-- The state once `PinWrite(level)` is made. -/
def State.afterPin (s : State) (level : Level) : State :=
  { s with
    env := { s.env with pinScript := s.env.pinScript.tail, draws := s.env.draws + 1 }
    hist := s.hist ++ [.pin level s.pinReply] }

/-- `PinWrite(level)`, then the rest of the command; a failure raises `PinError` (R16, 60_exceptions.md R207). -/
def State.pinThen (s : State) (level : Level) (rest : State → State) : State :=
  match s.pinReply with
  | .ok => rest (s.afterPin level)
  | .err => (s.afterPin level).raise .pinError

/-! ## The sequencer -/

/-- `SEQ` once command `cmd` has made `k` transfers and has more to make (10_state.md R22). -/
def State.advance (s : State) (cmd : Instr) (k : Nat) : State :=
  { s with seq := .busy cmd k }

/-- A command of at most one transfer: one step takes it from Idle to Idle (10_state.md R22, D43). While another
command runs the host has no move (00_scope.md R10). -/
def State.inOneStep (s : State) (body : State → State) : Host.Outcome State Fault Refusal :=
  match s.seq with
  | .idle => .next (body s)
  | .busy _ _ => .fault .portBusy

/-- A command of several transfers: one step makes one transfer (10_state.md R22, D43). `start` makes the first from
Idle, `resume k` the one after the first `k`. -/
def State.inSteps (s : State) (cmd : Instr) (start : State → State) (resume : Nat → State → State) :
    Host.Outcome State Fault Refusal :=
  match s.seq with
  | .idle => .next (start s)
  | .busy c k => if c = cmd then .next (resume k s) else .fault .portBusy

/-! ## The command port -/

/-- The next command word, and the state once the port has taken it (00_scope.md R10, 30_encoding.md R70). -/
def State.fetch (s : State) : Option (List Byte × State) :=
  match s.env.words with
  | [] => none
  | w :: ws => some (w, { s with env := { s.env with words := ws } })

/-- A word that carries no command ends IllegalCommand and makes no transfer (30_encoding.md R72, R76). -/
def State.rejectWord (s : State) : State :=
  s.raise .illegalCommand

/-! ## Construction -/

/-- The checks of 70_reset_and_hazards.md R233 on the construction arguments. -/
def checkConfig (a : ConfigArgs) : Option Config :=
  if _ : a.devAddr < 0x80 then
    if hb : a.gestureInitBase ≤ 0xFA then
      let make (budget : Option { n : Nat // 1 ≤ n }) : Config :=
        { devAddr := BitVec.ofNat 7 a.devAddr
          maxWidth := a.maxWidth
          maxHeight := a.maxHeight
          chipIdExpected := a.chipIdExpected
          devModeBitMask := a.devModeBitMask
          devModeBitPosition := a.devModeBitPosition
          devModeFactory := a.devModeFactory
          devModeWorking := a.devModeWorking
          gestureInitBase := ⟨a.gestureInitBase, by omega⟩
          tdCountMask := a.tdCountMask
          gestureFeature := a.gestureFeature
          resetHelper := a.resetHelper
          sampleDiscardPolicy := a.sampleDiscardPolicy
          coordPollBudget := budget }
      match a.coordPollBudget with
      | none => some (make none)
      | some n => if h : 1 ≤ n then some (make (some ⟨n, h⟩)) else none
    else none
  else none

/-- The block's reset is its construction (70_reset_and_hazards.md R230); arguments that break a constraint are refused
(R233, 60_exceptions.md R220). -/
def construct (a : ConfigArgs) : Host.Outcome State Fault Refusal :=
  match checkConfig a with
  | some c => .next (State.ofConfig c)
  | none => .refused .invalidConfig

end Sys2Proof.Machine
end

