-- ==== Sys2Proof/Machine/RegMap.lean ====
section
/-! DEFINITION. Sys2Proof/Machine/RegMap.lean: the device register map (20_memory.md R52, R53). -/

namespace Sys2Proof.Machine

/-- device-mode -/
def regDevMode : Byte := 0x00
/-- gesture-ID -/
def regGestureId : Byte := 0x01
/-- touch-status (touch count) -/
def regTouchStatus : Byte := 0x02
/-- the touch-1 block, slot 0: 0x03 to 0x08 -/
def regTouch1 : Byte := 0x03
/-- the touch-2 block, slot 1: 0x09 to 0x0E -/
def regTouch2 : Byte := 0x09
/-- library-version: 0xA1 and 0xA2 -/
def regLibVersion : Byte := 0xA1
/-- firmware-ID -/
def regFirmwareId : Byte := 0xA6
/-- chip-ID -/
def regChipId : Byte := 0xA8

/-- The first of the six GestureInit registers (30_encoding.md R89). -/
def regGestureInit (c : Config) : Byte := BitVec.ofNat 8 c.gestureInitBase.val

/-- The names of R52; `byte` counts from 0 within a register of more than one byte. -/
inductive RegName where
  | deviceMode | gestureId | touchStatus
  | touch1 (byte : Nat)
  | touch2 (byte : Nat)
  | threshold
  | libVersion (byte : Nat)
  | firmwareId | chipId
  /-- no meaning in the source (R53) -/
  | unnamed
deriving DecidableEq, Repr

/-- The map of R52 and R53, from an address to its register's name. The GestureInit registers are not in it: where they
lie is OPEN, and the spec does not assume they lie in 0x80 to 0x96 (R53). -/
def regAt (addr : Byte) : RegName :=
  let a := addr.toNat
  if a = 0x00 then .deviceMode
  else if a = 0x01 then .gestureId
  else if a = 0x02 then .touchStatus
  else if a ≤ 0x08 then .touch1 (a - 0x03)
  else if a ≤ 0x0E then .touch2 (a - 0x09)
  else if 0x80 ≤ a ∧ a ≤ 0x96 then .threshold
  else if 0xA1 ≤ a ∧ a ≤ 0xA2 then .libVersion (a - 0xA1)
  else if a = 0xA6 then .firmwareId
  else if a = 0xA8 then .chipId
  else .unnamed

end Sys2Proof.Machine
end

