-- ==== Sys2Proof/Machine/Calibration.lean ====
section
/-! DEFINITION. Sys2Proof/Machine/Calibration.lean: the calibration state machine (42_calibration.md section 1). -/

namespace Sys2Proof.Machine

/-- The states of calibration (10_state.md R25). -/
inductive CalState where
  | idle | factoryModeRequested | polling | calibrated | timedOut | aborted
deriving DecidableEq, Repr

/-- Their encoding in `CAL_STATE` (10_state.md R25). -/
def CalState.code : CalState → BitVec 3
  | .idle => 0
  | .factoryModeRequested => 1
  | .polling => 2
  | .calibrated => 3
  | .timedOut => 4
  | .aborted => 5

/-- `CAL_STATE <- c`. -/
def State.setCal (s : State) (c : CalState) : State :=
  { s with calState := c.code }

/-- `on BusError(detail)` (R140): `CAL_STATE <- Aborted`, then the error is raised. -/
def State.calAbort (s : State) (d : BusErrDetail) : State :=
  (s.setCal .aborted).raise (.busError d)

/-- `CAL_STATE <- FactoryModeRequested ; CAL_ATTEMPT <- 0` (R140, R141). -/
def State.calBegin (s : State) : State :=
  { s with calState := CalState.factoryModeRequested.code, calAttempt := 0 }

/-- `CAL_STATE <- Polling ; CAL_ATTEMPT <- n`, where `n` is one more than before (R143). -/
def State.calNextPoll (s : State) : State :=
  { s with calState := CalState.polling.code, calAttempt := s.calAttempt + 1 }

/-- The factory-mode request (R141): the whole byte, with no read-modify-write and no shift. -/
def State.calRequest (s : State) : State :=
  let t := s.calBegin.afterWrite regDevMode [s.cfg.devModeFactory]
  match s.writeReply with
  | .ok => t.advance .calibrate 1
  | .err d => t.calAbort d

/-- The delay before a poll, and the start of that poll (R142, R143; R144: "delay done, poll 1 starts"). -/
def State.calDelay (s : State) (k ms : Nat) : State :=
  (s.delay ms).calNextPoll.advance .calibrate (k + 1)

/-- The read of poll `n`, where `n` is `CAL_ATTEMPT` (R143). -/
def State.calPoll (s : State) (k : Nat) : State :=
  let n := s.calAttempt.toNat
  let t := s.afterRead regDevMode 1
  match s.busReply 1 with
  | .ok b =>
    if decodeDevMode s.cfg b[0] = s.cfg.devModeWorking then (t.setCal .calibrated).ret (.count n)
    else if n < Config.calMaxAttempts then t.advance .calibrate (k + 1)
    else (t.setCal .timedOut).raise .calibrationTimeout
  | .err d => t.calAbort d

/-- The transfer after the first `k` (R140): transfer 0 is the factory write, 1 the settle delay; then polls and
inter-poll delays take turns. -/
def State.calResume (k : Nat) (s : State) : State :=
  if k = 0 then s.calRequest
  else if k = 1 then s.calDelay k Config.calSettleMs
  else if k % 2 = 1 then s.calDelay k Config.calPollMs
  else s.calPoll k

/-- CALIBRATE (R140 to R144). A new one is accepted whatever `CAL_STATE` holds (R144). -/
def execCalibrate (s : State) : Host.Outcome State Fault Refusal :=
  s.inSteps .calibrate (State.calResume 0) State.calResume

end Sys2Proof.Machine
end

