-- ==== Sys2Proof/Machine/Coordinates.lean ====
section
/-! DEFINITION. Sys2Proof/Machine/Coordinates.lean: the blocking coordinate helper (42_calibration.md section 2). Its
body is shared with the gesture unit (43_gesture.md R161). -/

namespace Sys2Proof.Machine

/-- Where the body of GET_COORDINATES stands after one of its transfers. -/
inductive CoordOutcome where
  | more
  | sample (x y : Coord)
  | failed (e : CmdError)
deriving DecidableEq, Repr

/-- The body of GET_COORDINATES at its entry (R146). -/
def State.coordEnter (s : State) : State :=
  { s with coordPolls := 0, recordDue := false }

/-- `COORD_POLLS == CFG.COORD_POLL_BUDGET`, where there is a budget (R146, R147). -/
def State.budgetSpent (s : State) : Bool :=
  match s.cfg.coordPollBudget with
  | none => false
  | some n => s.coordPolls == n.val

/-- The record read is next, or not (log entry 9). -/
def State.setRecordDue (s : State) (due : Bool) : State :=
  { s with recordDue := due }

/-- `COORD_POLLS <- COORD_POLLS + 1` (R146). -/
def State.countPoll (s : State) : State :=
  { s with coordPolls := s.coordPolls + 1 }

/-- The record read, which ends the body either way (R146). -/
def State.coordRecord (s : State) : CoordOutcome × State :=
  let t := (s.afterRead regTouch1 6).setRecordDue false
  match s.busReply 6 with
  | .ok r => (.sample (decodeTouch r).x (decodeTouch r).y, t)
  | .err d => (.failed (.busError d), t)

/-- One count read (R146). Only a read that succeeds is counted. The budget is checked in the step of the read before
it (log entry 16). -/
def State.coordCount (s : State) : CoordOutcome × State :=
  let t := s.afterRead regTouchStatus 1
  match s.busReply 1 with
  | .err d => (.failed (.busError d), t)
  | .ok b =>
    if clampCount s.cfg b[0] ≠ 0 then (.more, t.countPoll.setRecordDue true)
    else if t.countPoll.budgetSpent then (.failed .pollBudgetExhausted, t.countPoll)
    else (.more, t.countPoll)

/-- The next transfer of the body (R146). -/
def State.coordTransfer (s : State) : CoordOutcome × State :=
  if s.recordDue then s.coordRecord else s.coordCount

/-- The transfer of GET_COORDINATES after the first `k` (R146). -/
def State.coordResume (k : Nat) (s : State) : State :=
  match s.coordTransfer with
  | (.more, t) => t.advance .getCoordinates (k + 1)
  | (.sample x y, t) => t.ret (.point x y)
  | (.failed e, t) => t.raise e

/-- GET_COORDINATES (R146, R147). -/
def execGetCoordinates (s : State) : Host.Outcome State Fault Refusal :=
  s.inSteps .getCoordinates (fun s => State.coordResume 0 s.coordEnter) State.coordResume

end Sys2Proof.Machine
end

