-- ==== Sys2Proof/Machine/Decoder.lean ====
section
/-! DEFINITION. Sys2Proof/Machine/Decoder.lean: the pure decode commands (41_decoder.md section 2): one step, no
transfer. -/

namespace Sys2Proof.Machine

/-- `OK, b` or `ProtocolError(IdMismatch, b)`: how both chip-ID commands end (R123, R129). -/
def State.endChipId (s : State) (b : Byte) : State :=
  match decodeChipId s.cfg b with
  | .ok v => s.ret (.byte v)
  | .error v => s.raise (.protocolError v)

/-- DECODE_TOUCH (R120). -/
def execDecodeTouch (b0 b1 b2 b3 b4 b5 : Byte) (s : State) : Host.Outcome State Fault Refusal :=
  s.inOneStep fun s => s.ret (.touch (decodeTouch #v[b0, b1, b2, b3, b4, b5]))

/-- DECODE_MULTITOUCH (R121). -/
def execDecodeMultitouch (b0 b1 b2 b3 b4 b5 b6 b7 b8 b9 b10 b11 : Byte) (s : State) :
    Host.Outcome State Fault Refusal :=
  s.inOneStep fun s => s.ret (.multiTouch (decodeMultiTouch #v[b0, b1, b2, b3, b4, b5, b6, b7, b8, b9, b10, b11]))

/-- DECODE_GESTURE (R122). -/
def execDecodeGesture (b0 : Byte) (s : State) : Host.Outcome State Fault Refusal :=
  s.inOneStep fun s => s.ret (.gesture (gestureCode (decodeGesture b0)))

/-- DECODE_CHIP_ID (R123). -/
def execDecodeChipId (b0 : Byte) (s : State) : Host.Outcome State Fault Refusal :=
  s.inOneStep fun s => s.endChipId b0

/-- DECODE_DEV_MODE (R124). -/
def execDecodeDevMode (b0 : Byte) (s : State) : Host.Outcome State Fault Refusal :=
  s.inOneStep fun s => s.ret (.byte (decodeDevMode s.cfg b0))

end Sys2Proof.Machine
end

