-- ==== Sys2Proof/Machine/Gesture.lean ====
section
/-! DEFINITION. Sys2Proof/Machine/Gesture.lean: the gesture heuristic, an optional unit (43_gesture.md). -/

namespace Sys2Proof.Machine

/-- The x entries of a cleared sample window: one free value each, from the draw `draw` (log entry 12). -/
def freeWindowX (draw : Nat) : Vector Coord 19 :=
  Vector.ofFn fun i => Config.freeSampleX draw i

/-- The y entries of a cleared sample window. -/
def freeWindowY (draw : Nat) : Vector Coord 19 :=
  Vector.ofFn fun i => Config.freeSampleY draw i

/-- The cleared sample window (R160). 10_state.md R28: "no value carries from one GESTURE_DETECT to the next", so its x
and y entries take free draws, numbered as the transaction that follows in the same step (log entry 12). -/
def State.clearWindow (s : State) : State :=
  { s with
    smpN := 0
    smpIter := 0
    smpOk := 0
    smpX := freeWindowX s.env.draws
    smpY := freeWindowY s.env.draws }

/-- The next iteration starts (R160, R161): `SMP_ITER <- i + 1`, and the body of GET_COORDINATES is entered. -/
def State.startIteration (s : State) : State :=
  { s.coordEnter with smpIter := s.smpIter + 1 }

/-- GESTURE_DETECT at its entry: the window is cleared and iteration 0 starts. -/
def State.gestureEnter (s : State) : State :=
  s.clearWindow.startIteration

/-- The running iteration: `SMP_ITER <- i + 1` (R160). -/
def State.gestureIteration (s : State) : Nat :=
  s.smpIter.toNat - 1

/-- Where the sample of iteration `i` goes (R160): the next free entry under Compact, slot `i` under SlotKeep. -/
def State.sampleEntry (s : State) (i : Nat) : Nat :=
  match s.cfg.sampleDiscardPolicy with
  | .compact => s.smpN.toNat
  | .slotKeep => i

/-- Store the sample of iteration `i` (R160). -/
def State.putSample (s : State) (i : Nat) (x y : Coord) : State :=
  { s with
    smpX := s.smpX.setIfInBounds (s.sampleEntry i) x
    smpY := s.smpY.setIfInBounds (s.sampleEntry i) y
    smpOk := s.smpOk ||| (1#19 <<< i)
    smpN := s.smpN + 1 }

/-- Entry `i` of the sample window; past its end, which no run reaches, a free value (log entry 18). -/
def State.sampleAt (s : State) (i : Nat) : Coord × Coord :=
  ((s.smpX[i]?).getD (Config.freeSampleX s.env.draws i), (s.smpY[i]?).getD (Config.freeSampleY s.env.draws i))

/-- `select`: the first and the last sample, if there is a pair (R163). -/
def State.firstLast (s : State) : Option ((Coord × Coord) × (Coord × Coord)) :=
  match s.cfg.sampleDiscardPolicy with
  | .compact => if s.smpN = 0 then none else some (s.sampleAt 0, s.sampleAt (s.smpN.toNat - 1))
  | .slotKeep => some (s.sampleAt 0, s.sampleAt (Config.gestureSamples - 1))

/-- `classify(dx, dy)` (R165), over the integers. -/
def classify (dx dy : Int) : GestureKind :=
  if dx.natAbs > Config.gestureBound ∨ dy.natAbs > Config.gestureBound then .fault
  else if dx.natAbs > dy.natAbs then (if dx > 0 then .right else .left)
  else if dx.natAbs < dy.natAbs then (if dy > 0 then .up else .left)
  else .fault

/-- `last - first`, exact over the integers (R164). -/
def delta (first last : Coord) : Int :=
  (last.toNat : Int) - (first.toNat : Int)

/-- The result of GESTURE_DETECT once the 19 iterations are over (R160, R163 to R166). -/
def State.gestureResult (s : State) : GestureKind :=
  match s.firstLast with
  | none => .fault
  | some (first, last) => classify (delta first.1 last.1) (delta first.2 last.2)

/-- After an iteration: the next one, or the end (R161). -/
def State.gestureNext (s : State) (k : Nat) : State :=
  if s.smpIter.toNat < Config.gestureSamples then
    s.startIteration.advance .gestureDetect (k + 1)
  else s.ret (.gesture (gestureCode s.gestureResult))

/-- The transfer of GESTURE_DETECT after the first `k` (R160, R161). A failed sample is discarded (R162). -/
def State.gestureResume (k : Nat) (s : State) : State :=
  match s.coordTransfer with
  | (.more, t) => t.advance .gestureDetect (k + 1)
  | (.sample x y, t) => (t.putSample s.gestureIteration x y).gestureNext k
  | (.failed _, t) => (t.emit (.sampleDiscarded s.gestureIteration)).gestureNext k

/-- GESTURE_DETECT (R160 to R167); illegal where the unit is absent (30_encoding.md R77). -/
def execGestureDetect (s : State) : Host.Outcome State Fault Refusal :=
  s.inSteps .gestureDetect
    (fun s => if s.cfg.gestureFeature then State.gestureResume 0 s.gestureEnter else s.raise .illegalCommand)
    State.gestureResume

end Sys2Proof.Machine
end

