-- ==== Sys2Proof/Machine/Platform.lean ====
section
/-! DEFINITION. Sys2Proof/Machine/Platform.lean: the GestureInit cache, the capability descriptor and the reset helper
(44_platform.md). -/

namespace Sys2Proof.Machine

/-- Load the GestureInit cache (R180, R181, 20_memory.md R67). -/
def State.loadGi (s : State) (bytes : Vector Byte 6) : State :=
  { s with giCache := bytes, giValid := true }

/-- GI_READ (R180). -/
def execGiRead (s : State) : Host.Outcome State Fault Refusal :=
  s.inOneStep fun s =>
    s.readThen (regGestureInit s.cfg) 6 fun b t => (t.loadGi b).ret (.gestureInit (gestureInitOf b))

/-- GI_SET (R181). -/
def execGiSet (b0 b1 b2 b3 b4 b5 : Byte) (s : State) : Host.Outcome State Fault Refusal :=
  s.inOneStep fun s => (s.loadGi #v[b0, b1, b2, b3, b4, b5]).ret (.bytes [])

/-- GI_WRITE (R182). -/
def execGiWrite (s : State) : Host.Outcome State Fault Refusal :=
  s.inOneStep fun s =>
    if s.giValid then s.writeThen (regGestureInit s.cfg) s.giCache.toList fun t => t.ret (.bytes [])
    else s.raise .cacheEmpty

/-- GET_CAPABILITIES (R184). -/
def execGetCapabilities (s : State) : Host.Outcome State Fault Refusal :=
  s.inOneStep fun s => s.ret (.capabilities s.cap)

/-- The transfer of HARD_RESET after the first `k` (R185): pin low, delay, pin high. -/
def State.hardResetResume (k : Nat) (s : State) : State :=
  if k = 0 then s.pinThen .low fun t => t.advance .hardReset 1
  else if k = 1 then (s.delay Config.resetPulseMs).advance .hardReset 2
  else s.pinThen .high fun t => t.ret (.bytes [])

/-- HARD_RESET (R185); illegal where the helper is absent (30_encoding.md R77). -/
def execHardReset (s : State) : Host.Outcome State Fault Refusal :=
  s.inSteps .hardReset
    (fun s => if s.cfg.resetHelper then State.hardResetResume 0 s else s.raise .illegalCommand)
    State.hardResetResume

end Sys2Proof.Machine
end

