-- ==== Sys2Proof/Machine/Operands.lean ====
section
/-! DEFINITION. Sys2Proof/Machine/Operands.lean: the operand checks a command makes before any transfer (30_encoding.md
R74) and the register range an operand selects. -/

namespace Sys2Proof.Machine

/-- Formats A and W: `len` is 1 to 255 and the registers `addr` to `addr + len - 1` exist (R74, 20_memory.md R59). The
upper bound of `len` is that of its field (R71). -/
def transferInRange (addr : Byte) (len : Nat) : Bool :=
  1 ≤ len && len ≤ 255 && addr.toNat + len ≤ 256

/-- Format S: `slot < CFG.MAX_TOUCH` (R74). -/
def slotInRange (slot : Byte) : Bool :=
  slot.toNat < Config.maxTouch

/-- The first register of a slot's touch record: `0x03 + 6 * slot` (41_decoder.md R127). -/
def slotBase (slot : Byte) : Byte :=
  regTouch1 + 6 * slot

end Sys2Proof.Machine
end

