-- ==== Sys2Proof/Machine/ReadDecode.lean ====
section
/-! DEFINITION. Sys2Proof/Machine/ReadDecode.lean: the commands that read a fixed register range in one transaction and
decode it (41_decoder.md section 3; DETECT_TOUCH is 42_calibration.md R145). -/

namespace Sys2Proof.Machine

/-- READ_DEV_MODE (R125). -/
def execReadDevMode (s : State) : Host.Outcome State Fault Refusal :=
  s.inOneStep fun s => s.readThen regDevMode 1 fun b t => t.ret (.byte (decodeDevMode t.cfg b[0]))

/-- READ_GESTURE_ID (R126). -/
def execReadGestureId (s : State) : Host.Outcome State Fault Refusal :=
  s.inOneStep fun s => s.readThen regGestureId 1 fun b t => t.ret (.gesture (gestureCode (decodeGesture b[0])))

/-- DETECT_TOUCH (R145). -/
def execDetectTouch (s : State) : Host.Outcome State Fault Refusal :=
  s.inOneStep fun s => s.readThen regTouchStatus 1 fun b t => t.ret (.count (clampCount t.cfg b[0]))

/-- READ_TOUCH (R127). -/
def execReadTouch (slot : Byte) (s : State) : Host.Outcome State Fault Refusal :=
  s.inOneStep fun s =>
    if slotInRange slot then s.readThen (slotBase slot) 6 fun b t => t.ret (.touch (decodeTouch b))
    else s.raise .illegalCommand

/-- READ_MULTITOUCH (R128). -/
def execReadMultitouch (s : State) : Host.Outcome State Fault Refusal :=
  s.inOneStep fun s => s.readThen regTouch1 12 fun b t => t.ret (.multiTouch (decodeMultiTouch b))

/-- READ_CHIP_ID (R129). -/
def execReadChipId (s : State) : Host.Outcome State Fault Refusal :=
  s.inOneStep fun s => s.readThen regChipId 1 fun b t => t.endChipId b[0]

/-- READ_FIRMWARE_ID (R130). -/
def execReadFirmwareId (s : State) : Host.Outcome State Fault Refusal :=
  s.inOneStep fun s => s.readThen regFirmwareId 1 fun b t => t.ret (.byte b[0])

/-- READ_LIB_VERSION (R131). -/
def execReadLibVersion (s : State) : Host.Outcome State Fault Refusal :=
  s.inOneStep fun s => s.readThen regLibVersion 2 fun b t => t.ret (.bytes b.toList)

end Sys2Proof.Machine
end

