-- ==== Sys2Proof/Machine/Transport.lean ====
section
/-! DEFINITION. Sys2Proof/Machine/Transport.lean: the register transport commands (40_transport.md). -/

namespace Sys2Proof.Machine

/-- READ_REG (R100). -/
def execReadReg (addr : Byte) (s : State) : Host.Outcome State Fault Refusal :=
  s.inOneStep fun s => s.readThen addr 1 fun b t => t.ret (.bytes b.toList)

/-- WRITE_REG (R101). -/
def execWriteReg (addr : Byte) (data : List Byte) (s : State) : Host.Outcome State Fault Refusal :=
  s.inOneStep fun s =>
    if transferInRange addr data.length then s.writeThen addr data fun t => t.ret (.bytes [])
    else s.raise .illegalCommand

/-- READ_AFTER_WRITE (R102). -/
def execReadAfterWrite (addr len : Byte) (s : State) : Host.Outcome State Fault Refusal :=
  s.inOneStep fun s =>
    if transferInRange addr len.toNat then s.readThen addr len.toNat fun b t => t.ret (.bytes b.toList)
    else s.raise .illegalCommand

end Sys2Proof.Machine
end

