-- ==== Sys2Proof/Machine/Dispatch.lean ====
section
/-! DEFINITION. Sys2Proof/Machine/Dispatch.lean: one arm per command, in the order of 30_encoding.md R75. `exec` makes
ONE step of a command (10_state.md R22, D43): the first from Idle, or the next of the command that runs. -/

namespace Sys2Proof.Machine

def exec (i : Instr) (s : State) : Host.Outcome State Fault Refusal :=
  match i with
  | .readReg addr => Sys2Proof.Machine.execReadReg addr s
  | .writeReg addr data => Sys2Proof.Machine.execWriteReg addr data s
  | .readAfterWrite addr len => Sys2Proof.Machine.execReadAfterWrite addr len s
  | .decodeTouch b0 b1 b2 b3 b4 b5 => Sys2Proof.Machine.execDecodeTouch b0 b1 b2 b3 b4 b5 s
  | .decodeMultitouch b0 b1 b2 b3 b4 b5 b6 b7 b8 b9 b10 b11 => Sys2Proof.Machine.execDecodeMultitouch b0 b1 b2 b3 b4 b5 b6 b7 b8 b9 b10 b11 s
  | .decodeGesture b0 => Sys2Proof.Machine.execDecodeGesture b0 s
  | .decodeChipId b0 => Sys2Proof.Machine.execDecodeChipId b0 s
  | .decodeDevMode b0 => Sys2Proof.Machine.execDecodeDevMode b0 s
  | .readDevMode => Sys2Proof.Machine.execReadDevMode s
  | .readGestureId => Sys2Proof.Machine.execReadGestureId s
  | .detectTouch => Sys2Proof.Machine.execDetectTouch s
  | .readTouch slot => Sys2Proof.Machine.execReadTouch slot s
  | .readMultitouch => Sys2Proof.Machine.execReadMultitouch s
  | .readChipId => Sys2Proof.Machine.execReadChipId s
  | .readFirmwareId => Sys2Proof.Machine.execReadFirmwareId s
  | .readLibVersion => Sys2Proof.Machine.execReadLibVersion s
  | .calibrate => Sys2Proof.Machine.execCalibrate s
  | .getCoordinates => Sys2Proof.Machine.execGetCoordinates s
  | .gestureDetect => Sys2Proof.Machine.execGestureDetect s
  | .giRead => Sys2Proof.Machine.execGiRead s
  | .giSet b0 b1 b2 b3 b4 b5 => Sys2Proof.Machine.execGiSet b0 b1 b2 b3 b4 b5 s
  | .giWrite => Sys2Proof.Machine.execGiWrite s
  | .getCapabilities => Sys2Proof.Machine.execGetCapabilities s
  | .hardReset => Sys2Proof.Machine.execHardReset s

end Sys2Proof.Machine
end

