-- ==== Sys2Proof/Machine/Step.lean ====
section
/-! DEFINITION. Sys2Proof/Machine/Step.lean: one step of the block: the next step of the command that runs, or the first
step of the next command (10_state.md R22, 00_scope.md R10). -/

namespace Sys2Proof.Machine

/-- One step. With no command running and no word pending the block waits, unchanged (70_reset_and_hazards.md R231). A
word that carries no command ends IllegalCommand (30_encoding.md R72, R76). -/
def step (s : State) : Host.Outcome State Fault Refusal :=
  match s.seq with
  | .busy cmd _ => exec cmd s
  | .idle =>
    match s.fetch with
    | none => .next s
    | some (w, t) =>
      match decode w with
      | .ok i => exec i t
      | .error _ => .next t.rejectWord

/-- `s` with the command of `decodeTableWord nbits w` as the next word the host sends, and no command running, so that
the next step takes and runs it (log entry 7). -/
def State.withFetchWord (s : State) (nbits w : Nat) : State :=
  { s with seq := .idle, env := { s.env with words := tableWord nbits w :: s.env.words } }

end Sys2Proof.Machine
end

