-- ==== Sys2Proof/Safety.lean ====
section
/-! DEFINITION. Sys2Proof/Safety.lean: the terms the statements use: how a command's end looks from outside, runs of
several steps, what an iteration of GESTURE_DETECT can be, and what a legal history and a legal state are. -/

namespace Sys2Proof.Machine

/-! ## Ends and runs -/

/-- `s` once its command has made the events `evs` and ended with the status code and the payload (10_state.md R23,
60_exceptions.md R204). -/
def State.endedWith (s : State) (evs : List Event) (status : Byte) (payload : Payload) : State :=
  { s with seq := .idle, status := status, result := payload, hist := s.hist ++ evs ++ [.commandEnd status] }

/-- `s` once a bus transaction has been answered and has left the event `e`. -/
def State.busDone (s : State) (e : Event) : State :=
  { s with env := s.env.afterBus, hist := s.hist ++ [e] }

/-- `s` once the port has taken its next word. -/
def State.wordTaken (s : State) : State :=
  { s with env := { s.env with words := s.env.words.tail } }

/-- `n` steps, stopping at the first fault or refusal. -/
def runSteps : Nat → State → Host.Outcome State Fault Refusal
  | 0, s => .next s
  | n + 1, s =>
    match step s with
    | .next t => runSteps n t
    | .fault r => .fault r
    | .refused r => .refused r

/-! ## The iterations of GESTURE_DETECT (43_gesture.md) -/

/-- The sample sequence (43_gesture.md R163): under Compact the collected samples in iteration order, under SlotKeep the
19 slots. -/
def State.sampleSeq (s : State) : List (Coord × Coord) :=
  let slots := s.smpX.toList.zip s.smpY.toList
  match s.cfg.sampleDiscardPolicy with
  | .compact => slots.take s.smpN.toNat
  | .slotKeep => slots

/-- The kind of a sample sequence (43_gesture.md R163 to R166): its last sample minus its first, over the integers,
classified; Fault where there is no pair. -/
def swipeKind : List (Coord × Coord) → GestureKind
  | [] => .fault
  | first :: rest =>
    let last := rest.getLastD first
    classify ((last.1.toNat : Int) - first.1.toNat) ((last.2.toNat : Int) - first.2.toNat)

/-- What the device makes of one iteration: the body of GET_COORDINATES (42_calibration.md R146) up to one of its four
ends. `zeros` are the counts that clamp to 0, in order. -/
inductive Iteration where
  /-- a later count read fails -/
  | countFails (zeros : List Byte) (detail : BusErrDetail)
  /-- the poll budget is used up (R147) -/
  | budgetSpent (zeros : List Byte)
  /-- a touch is counted, and its record read fails -/
  | recordFails (zeros : List Byte) (count : Byte) (detail : BusErrDetail)
  /-- a touch is counted, and its record is read -/
  | touched (zeros : List Byte) (count : Byte) (record : Vector Byte 6)
deriving DecidableEq, Repr

/-- Counts that clamp to 0 and leave the block polling: fewer of them than the budget, if there is one. -/
def keepsPolling (c : Config) (zeros : List Byte) : Prop :=
  (∀ b ∈ zeros, clampCount c b = 0) ∧ ∀ n, c.coordPollBudget = some n → zeros.length < n.val

/-- The iteration is one that a block with the configuration `c` can see. -/
def Iteration.fits (c : Config) : Iteration → Prop
  | .countFails zeros _ => keepsPolling c zeros
  | .budgetSpent zeros =>
    (∀ b ∈ zeros, clampCount c b = 0) ∧ c.coordPollBudget.map Subtype.val = some zeros.length
  | .recordFails zeros count _ => keepsPolling c zeros ∧ clampCount c count ≠ 0
  | .touched zeros count _ => keepsPolling c zeros ∧ clampCount c count ≠ 0

/-- The device's answers in the iteration. -/
def Iteration.answers : Iteration → List BusAnswer
  | .countFails zeros d => zeros.map (fun b => .ok [b]) ++ [.err d]
  | .budgetSpent zeros => zeros.map fun b => .ok [b]
  | .recordFails zeros count d => zeros.map (fun b => .ok [b]) ++ [.ok [count], .err d]
  | .touched zeros count r => zeros.map (fun b => .ok [b]) ++ [.ok [count], .ok r.toList]

/-- The sample the iteration yields, if it does not fail (43_gesture.md R161). -/
def Iteration.sample : Iteration → Option (Coord × Coord)
  | .touched _ _ r => some ((decodeTouch r).x, (decodeTouch r).y)
  | _ => none

/-- `COORD_POLLS` at the end of the iteration: the count reads that did not fail. -/
def Iteration.polls : Iteration → Nat
  | .countFails zeros _ => zeros.length
  | .budgetSpent zeros => zeros.length
  | .recordFails zeros _ _ => zeros.length + 1
  | .touched zeros _ _ => zeros.length + 1

/-- The events of iteration `i`: its reads, and `SampleDiscarded(i)` where it fails (43_gesture.md R162). -/
def Iteration.events (c : Config) (i : Nat) (it : Iteration) : List Event :=
  let countRead (o : ReadOutcome) : Event := .busWriteRead c.devAddr [0x02] 1 o
  let recordRead (o : ReadOutcome) : Event := .busWriteRead c.devAddr [0x03] 6 o
  match it with
  | .countFails zeros d => zeros.map (fun b => countRead (.ok [b])) ++ [countRead (.err d), .sampleDiscarded i]
  | .budgetSpent zeros => zeros.map (fun b => countRead (.ok [b])) ++ [.sampleDiscarded i]
  | .recordFails zeros count d =>
    zeros.map (fun b => countRead (.ok [b])) ++ [countRead (.ok [count]), recordRead (.err d), .sampleDiscarded i]
  | .touched zeros count r =>
    zeros.map (fun b => countRead (.ok [b])) ++ [countRead (.ok [count]), recordRead (.ok r.toList)]

/-! ## Histories -/

/-- An interface transfer: a bus transaction, a delay or a pin write (10_state.md R22). -/
def Event.isTransfer : Event → Bool
  | .busWrite _ _ _ | .busWriteRead _ _ _ _ | .delay _ | .pin _ _ => true
  | .sampleDiscarded _ | .commandEnd _ => false

/-- How many transfers the history shows since the last command ended. -/
def transfersSinceEnd (hist : List Event) : Nat :=
  hist.foldl (fun n e => match e with
    | .commandEnd _ => 0
    | e => if e.isTransfer then n + 1 else n) 0

/-- The bytes of the device registers a read of `n` bytes at `a` touches exist (20_memory.md R59). -/
def inSpace (a : Byte) (n : Nat) : Bool :=
  1 ≤ n && a.toNat + n ≤ 256

/-- What every event of a run is like: a bus transaction goes to `CFG.DEV_ADDR` and names the register first (20_memory.md
R50, R51), stays inside 0x00 to 0xFF (R59) and delivers as many bytes as it asks for (R61); a delay is one of the three
(60_exceptions.md R216); a discarded sample has an iteration number 0 to 18; a command ends with a code of R200 other
than that of SampleDiscarded (R200, R206). -/
def Event.legal (c : Config) : Event → Bool
  | .busWrite dev (a :: data) _ => dev == c.devAddr && inSpace a data.length
  | .busWrite _ [] _ => false
  | .busWriteRead dev [a] n (.ok bytes) => dev == c.devAddr && inSpace a n && bytes.length == n
  | .busWriteRead dev [a] n (.err _) => dev == c.devAddr && inSpace a n
  | .busWriteRead _ _ _ _ => false
  | .delay ms => ms == 300 || ms == 200 || ms == 10
  | .pin _ _ => true
  | .sampleDiscarded i => i < 19
  | .commandEnd st => st.toNat ≤ 8 && st != 0x04

/-- What a bus transaction does to the device registers: it reads or writes `n` of them, from `first` on. -/
inductive Access where
  | read (first : Byte) (n : Nat)
  | write (first : Byte) (n : Nat)
deriving DecidableEq, Repr

/-- A bus transaction. -/
def Event.isBus : Event → Bool
  | .busWrite _ _ _ | .busWriteRead _ _ _ _ => true
  | _ => false

/-- What an event does to the device registers (20_memory.md R51): the first written byte is the register address, and
a transaction that names none is no access. -/
def Event.access : Event → Option Access
  | .busWrite _ (a :: data) _ => some (.write a data.length)
  | .busWriteRead _ [a] n _ => some (.read a n)
  | _ => none

/-- The accesses each command may make (20_memory.md R52, R60). Only the three commands of the raw transport take an
address from their operands (R51). -/
def Access.allowed (c : Config) : Instr → List Access
  | .readReg addr => [.read addr 1]
  | .writeReg addr data => [.write addr data.length]
  | .readAfterWrite addr len => [.read addr len.toNat]
  | .readDevMode => [.read 0x00 1]
  | .readGestureId => [.read 0x01 1]
  | .detectTouch => [.read 0x02 1]
  | .readTouch slot => if slot = 0 then [.read 0x03 6] else if slot = 1 then [.read 0x09 6] else []
  | .readMultitouch => [.read 0x03 12]
  | .readChipId => [.read 0xA8 1]
  | .readFirmwareId => [.read 0xA6 1]
  | .readLibVersion => [.read 0xA1 2]
  | .calibrate => [.write 0x00 1, .read 0x00 1]
  | .getCoordinates => [.read 0x02 1, .read 0x03 6]
  | .gestureDetect => [.read 0x02 1, .read 0x03 6]
  | .giRead => [.read (BitVec.ofNat 8 c.gestureInitBase.val) 6]
  | .giWrite => [.write (BitVec.ofNat 8 c.gestureInitBase.val) 6]
  | .decodeTouch _ _ _ _ _ _ => []
  | .decodeMultitouch _ _ _ _ _ _ _ _ _ _ _ _ => []
  | .decodeGesture _ => []
  | .decodeChipId _ => []
  | .decodeDevMode _ => []
  | .giSet _ _ _ _ _ _ => []
  | .getCapabilities => []
  | .hardReset => []

/-! ## Legal states -/

/-- The count poll that runs has not used up its budget (42_calibration.md R147). -/
def State.budgetLeft (s : State) : Prop :=
  s.recordDue = false → ∀ n, s.cfg.coordPollBudget = some n → s.coordPolls < n.val

/-- The sequencer and the registers of the running command agree (10_state.md R22, R25, R26, R28, R29). -/
def State.seqLegal (s : State) : Prop :=
  match s.seq with
  | .idle => s.recordDue = false
  | .busy .calibrate k =>
    s.recordDue = false ∧ 1 ≤ k ∧ k ≤ 200 ∧ s.calAttempt.toNat = k / 2 ∧
      s.calState = if k = 1 then CalState.factoryModeRequested.code else CalState.polling.code
  | .busy .getCoordinates k => 1 ≤ k ∧ k = s.coordPolls ∧ s.budgetLeft
  | .busy .gestureDetect k =>
    1 ≤ k ∧ s.cfg.gestureFeature = true ∧ 1 ≤ s.smpIter.toNat ∧ s.smpN.toNat < s.smpIter.toNat ∧ s.budgetLeft
  | .busy .hardReset k => s.recordDue = false ∧ (k = 1 ∨ k = 2) ∧ s.cfg.resetHelper = true
  | .busy _ _ => False

/-- CALIBRATE is the running command. -/
def State.calibrating (s : State) : Prop := ∃ k, s.seq = .busy .calibrate k

/-- GESTURE_DETECT is the running command. -/
def State.sampling (s : State) : Prop := ∃ k, s.seq = .busy .gestureDetect k

/-- What holds of every state a run reaches. -/
structure State.Inv (s : State) : Prop where
  /-- `CAP` is the constant of 10_state.md R30 -/
  capRom : s.cap = capabilitiesOf s.cfg
  seqOk : s.seqLegal
  /-- outside CALIBRATE, `CAL_STATE` is Idle (with no attempt yet) or one of the terminal states (10_state.md R25,
  R26) -/
  calOk : ¬ s.calibrating →
    (s.calState = CalState.idle.code ∧ s.calAttempt = 0) ∨
    (s.calState = CalState.calibrated.code ∧ 1 ≤ s.calAttempt.toNat ∧ s.calAttempt.toNat ≤ 100) ∨
    (s.calState = CalState.timedOut.code ∧ s.calAttempt.toNat = 100) ∨
    (s.calState = CalState.aborted.code ∧ s.calAttempt.toNat ≤ 100)
  /-- `SMP_N` and `SMP_ITER` stay in 0 to 19 (10_state.md R28) -/
  smpOk : s.smpN.toNat ≤ s.smpIter.toNat ∧ s.smpIter.toNat ≤ 19
  /-- outside GESTURE_DETECT no window is half filled (10_state.md R28, 43_gesture.md R161) -/
  smpWhole : ¬ s.sampling → s.smpIter = 0 ∨ s.smpIter = 19
  /-- every event is legal -/
  histOk : ∀ e ∈ s.hist, e.legal s.cfg = true
  /-- `k` of `Busy(cmd, k)` counts the transfers the command has completed (10_state.md R22) -/
  seqCounts : transfersSinceEnd s.hist = match s.seq with
    | .idle => 0
    | .busy _ k => k

/-! ## What must not matter -/

/-- `s` with the history `h` in place of its own. -/
def State.withHist (s : State) (h : List Event) : State :=
  { s with hist := h }

/-- `s` with fixed values in every register that may hold no value of the spec's (10_state.md section 9): `STATUS` and
`RESULT`; the cache while it is not valid; the sample window while GESTURE_DETECT does not run. Two states with the same
mask differ only there. -/
def State.masked (s : State) : State :=
  { s with
    status := 0
    result := .none
    giCache := if s.giValid then s.giCache else Vector.replicate 6 0
    smpX := match s.seq with
      | .busy .gestureDetect _ => s.smpX
      | _ => Vector.replicate 19 0
    smpY := match s.seq with
      | .busy .gestureDetect _ => s.smpY
      | _ => Vector.replicate 19 0 }

end Sys2Proof.Machine
end

