-- ==== Sys2Proof/Certificates/Slice0/Obligations.lean ====
section
/-! DEFINITION. Sys2Proof/Certificates/Slice0/Obligations.lean: the statements for the provers. In all of them
`s.busReply n` is what the oracle answers to the next transaction (20_memory.md R55): a premise on it is a premise about
the device, and a statement without one holds for every draw. -/

open Sys2Proof Sys2Proof.Machine

/-! ## Encoding (30_encoding.md part A) -/

/-- Decoding the word of a command gives the command back, for every operand the encoding admits. -/
def Obligations.DecodeOfEncode : Prop :=
  ∀ i : Instr, i.encodable = true → decode (encode i) = .ok i

/-- A word that decodes is the word of the command it decodes to: no two words mean one command. -/
def Obligations.EncodeOfDecode : Prop :=
  ∀ (w : List Byte) (i : Instr), decode w = .ok i → i.encodable = true ∧ encode i = w

/-- R70, R72, R76, R78: a word decodes exactly when its opcode is assigned and its length is its format's. That the decoder
stops there, and the meanings check the operand ranges and the presence of a unit (R74, R77), which R208 counts as decoding
too, is the model's reading (log entry 11). -/
def Obligations.DecodeAcceptsExactly : Prop :=
  ∀ w : List Byte, (∃ i, decode w = .ok i) ↔
    ∃ op args, w = op :: args ∧ (formatOf op).isSome = true ∧ w.length = wordLengthOf w

/-- A word of each of the 24 rows of R75, written out by the formats of R71. -/
def Obligations.DecodeSpecWords : Prop :=
  decode [0x01, 0xA6] = .ok (.readReg 0xA6) ∧
  decode [0x02, 0x91, 0x03, 0x01, 0x02, 0x03] = .ok (.writeReg 0x91 [0x01, 0x02, 0x03]) ∧
  decode [0x03, 0x03, 0x06] = .ok (.readAfterWrite 0x03 6) ∧
  decode [0x10, 0x01, 0x20, 0x00, 0x30, 0x64, 0x05] = .ok (.decodeTouch 0x01 0x20 0x00 0x30 0x64 0x05) ∧
  decode [0x11, 1, 2, 3, 4, 5, 6, 7, 8, 9, 10, 11, 12] = .ok (.decodeMultitouch 1 2 3 4 5 6 7 8 9 10 11 12) ∧
  decode [0x12, 0x1C] = .ok (.decodeGesture 0x1C) ∧
  decode [0x13, 0x11] = .ok (.decodeChipId 0x11) ∧
  decode [0x14, 0x74] = .ok (.decodeDevMode 0x74) ∧
  decode [0x20] = .ok .readDevMode ∧
  decode [0x21] = .ok .readGestureId ∧
  decode [0x22] = .ok .detectTouch ∧
  decode [0x23, 0x01] = .ok (.readTouch 0x01) ∧
  decode [0x24] = .ok .readMultitouch ∧
  decode [0x25] = .ok .readChipId ∧
  decode [0x26] = .ok .readFirmwareId ∧
  decode [0x27] = .ok .readLibVersion ∧
  decode [0x30] = .ok .calibrate ∧
  decode [0x31] = .ok .getCoordinates ∧
  decode [0x32] = .ok .gestureDetect ∧
  decode [0x40] = .ok .giRead ∧
  decode [0x41, 1, 2, 3, 4, 5, 6] = .ok (.giSet 1 2 3 4 5 6) ∧
  decode [0x42] = .ok .giWrite ∧
  decode [0x43] = .ok .getCapabilities ∧
  decode [0x50] = .ok .hardReset

/-- R76: exactly the listed opcodes are unassigned, and a word with one of them ends IllegalCommand, with no transfer
and no other change of the block. -/
def Obligations.UnassignedOpcodeIsIllegal : Prop :=
  ∀ (op : Byte) (args : List Byte),
    (op = 0x00 ∨ (0x04 ≤ op ∧ op ≤ 0x0F) ∨ (0x15 ≤ op ∧ op ≤ 0x1F) ∨ (0x28 ≤ op ∧ op ≤ 0x2F) ∨
      (0x33 ≤ op ∧ op ≤ 0x3F) ∨ (0x44 ≤ op ∧ op ≤ 0x4F) ∨ 0x51 ≤ op →
      decode (op :: args) = .error (.unassignedOpcode op) ∧
      ∀ (s : State) (ws : List (List Byte)), s.seq = .idle → s.env.words = (op :: args) :: ws →
        step s = .next (s.wordTaken.endedWith [] 0x06 .none)) ∧
    (¬ (op = 0x00 ∨ (0x04 ≤ op ∧ op ≤ 0x0F) ∨ (0x15 ≤ op ∧ op ≤ 0x1F) ∨ (0x28 ≤ op ∧ op ≤ 0x2F) ∨
      (0x33 ≤ op ∧ op ≤ 0x3F) ∨ (0x44 ≤ op ∧ op ≤ 0x4F) ∨ 0x51 ≤ op) →
      decode (op :: args) ≠ .error (.unassignedOpcode op))

/-- R72: a word whose length is not its format's, and the empty word, end IllegalCommand with no transfer. -/
def Obligations.WrongLengthIsIllegal : Prop :=
  ∀ (s : State) (w : List Byte) (ws : List (List Byte)), s.seq = .idle → s.env.words = w :: ws →
    (w = [] ∨ w.length ≠ wordLengthOf w) →
    step s = .next (s.wordTaken.endedWith [] 0x06 .none)

/-! ## The step (10_state.md R22, 00_scope.md R10) -/

/-- A step at Idle takes the next word off the port and runs the command it decodes to. -/
def Obligations.StepRunsDecodedCommand : Prop :=
  ∀ (s : State) (w : List Byte) (ws : List (List Byte)) (i : Instr),
    s.seq = .idle → s.env.words = w :: ws → decode w = .ok i → step s = exec i s.wordTaken

/-- While a command runs, a step is the next step of that command, the command port is not read, and no other command
can be executed: the model stops (log entry 10; R10, R239). With no command running and none sent, the block waits,
unchanged (R231). -/
def Obligations.StepResumesOrWaits : Prop :=
  ∀ s : State,
    (∀ (cmd : Instr) (k : Nat), s.seq = .busy cmd k →
      step s = exec cmd s ∧ ∀ i, i ≠ cmd → exec i s = .fault .portBusy) ∧
    (s.seq = .idle → s.env.words = [] → step s = .next s)

/-! ## Reset and construction (70_reset_and_hazards.md) -/

/-- R230: what reset leaves, for every configuration. The registers of 10_state.md section 9 with "no value" are not
in it. -/
def Obligations.ResetValues : Prop :=
  ∀ c : Config,
    let s := State.ofConfig c
    s.cfg = c ∧ s.seq = .idle ∧ s.calState = CalState.idle.code ∧ s.calAttempt = 0 ∧ s.giValid = false ∧
    s.smpN = 0 ∧ s.smpIter = 0 ∧ s.smpOk = 0 ∧ s.coordPolls = 0 ∧ s.hist = [] ∧
    s.cap = { multiTouch := true, hwGesture := false, maxTouches := 2, maxWidth := c.maxWidth, maxHeight := c.maxHeight }

/-- R233: construction succeeds exactly on the arguments that meet the constraints, with those arguments; any other
arguments are refused. -/
def Obligations.ConstructionChecksConfig : Prop :=
  ∀ a : ConfigArgs,
    (a.devAddr < 0x80 ∧ a.gestureInitBase ≤ 0xFA ∧ (∀ n, a.coordPollBudget = some n → 1 ≤ n) →
      ∃ c : Config, construct a = .next (State.ofConfig c) ∧ c.devAddr.toNat = a.devAddr ∧
        c.gestureInitBase.val = a.gestureInitBase ∧ c.coordPollBudget.map Subtype.val = a.coordPollBudget ∧
        c.maxWidth = a.maxWidth ∧ c.maxHeight = a.maxHeight ∧ c.chipIdExpected = a.chipIdExpected ∧
        c.devModeBitMask = a.devModeBitMask ∧ c.devModeBitPosition = a.devModeBitPosition ∧
        c.devModeFactory = a.devModeFactory ∧ c.devModeWorking = a.devModeWorking ∧
        c.tdCountMask = a.tdCountMask ∧ c.gestureFeature = a.gestureFeature ∧ c.resetHelper = a.resetHelper ∧
        c.sampleDiscardPolicy = a.sampleDiscardPolicy) ∧
    (¬ (a.devAddr < 0x80 ∧ a.gestureInitBase ≤ 0xFA ∧ (∀ n, a.coordPollBudget = some n → 1 ≤ n)) →
      construct a = .refused .invalidConfig)

/-! ## Register transport (40_transport.md) -/

/-- R100. -/
def Obligations.ReadRegReadsOneRegister : Prop :=
  ∀ (s : State) (addr : Byte), s.seq = .idle →
    (∀ b : Byte, s.busReply 1 = .ok #v[b] →
      exec (.readReg addr) s = .next
        ((s.busDone (.busWriteRead s.cfg.devAddr [addr] 1 (.ok [b]))).endedWith [] 0x00 (.bytes [b]))) ∧
    (∀ d, s.busReply 1 = .err d →
      exec (.readReg addr) s = .next
        ((s.busDone (.busWriteRead s.cfg.devAddr [addr] 1 (.err d))).endedWith [] 0x01 (.busError d)))

/-- R101, with the operand checks of R74. That data of more than 255 bytes, which no word carries, is out of range too
is the model's reading (log entry 11). -/
def Obligations.WriteRegWritesInOneTransaction : Prop :=
  ∀ (s : State) (addr : Byte) (data : List Byte), s.seq = .idle →
    (1 ≤ data.length ∧ data.length ≤ 255 ∧ addr.toNat + data.length ≤ 256 →
      (s.writeReply = .ok →
        exec (.writeReg addr data) s = .next
          ((s.busDone (.busWrite s.cfg.devAddr (addr :: data) .ok)).endedWith [] 0x00 (.bytes []))) ∧
      (∀ d, s.writeReply = .err d →
        exec (.writeReg addr data) s = .next
          ((s.busDone (.busWrite s.cfg.devAddr (addr :: data) (.err d))).endedWith [] 0x01 (.busError d)))) ∧
    (¬ (1 ≤ data.length ∧ data.length ≤ 255 ∧ addr.toNat + data.length ≤ 256) →
      exec (.writeReg addr data) s = .next (s.endedWith [] 0x06 .none))

/-- R102, with the operand checks of R74. -/
def Obligations.ReadAfterWriteReadsRange : Prop :=
  ∀ (s : State) (addr len : Byte), s.seq = .idle →
    (1 ≤ len.toNat ∧ addr.toNat + len.toNat ≤ 256 →
      (∀ b : Vector Byte len.toNat, s.busReply len.toNat = .ok b →
        exec (.readAfterWrite addr len) s = .next
          ((s.busDone (.busWriteRead s.cfg.devAddr [addr] len.toNat (.ok b.toList))).endedWith [] 0x00
            (.bytes b.toList))) ∧
      (∀ d, s.busReply len.toNat = .err d →
        exec (.readAfterWrite addr len) s = .next
          ((s.busDone (.busWriteRead s.cfg.devAddr [addr] len.toNat (.err d))).endedWith [] 0x01 (.busError d)))) ∧
    (¬ (1 ≤ len.toNat ∧ addr.toNat + len.toNat ≤ 256) →
      exec (.readAfterWrite addr len) s = .next (s.endedWith [] 0x06 .none))

/-! ## Decoder (41_decoder.md) -/

/-- R110, R120: the four fields of a touch record, as numbers. -/
def Obligations.DecodeTouchFields : Prop :=
  ∀ (s : State) (b0 b1 b2 b3 b4 b5 : Byte), s.seq = .idle →
    ∃ t : TouchState,
      exec (.decodeTouch b0 b1 b2 b3 b4 b5) s = .next (s.endedWith [] 0x00 (.touch t)) ∧
      t.detected = true ∧
      t.x.toNat = (b0.toNat % 16) * 256 + b1.toNat ∧ t.y.toNat = (b2.toNat % 16) * 256 + b3.toNat ∧
      t.weight = b4 ∧ t.misc = b5

/-- R110: bits 7 to 4 of the two high bytes reach no output. -/
def Obligations.UpperNibblesDoNotMatter : Prop :=
  ∀ (s : State) (b0 b0' b1 b2 b2' b3 b4 b5 : Byte),
    b0 &&& 0x0F = b0' &&& 0x0F → b2 &&& 0x0F = b2' &&& 0x0F →
    exec (.decodeTouch b0 b1 b2 b3 b4 b5) s = exec (.decodeTouch b0' b1 b2' b3 b4 b5) s

/-- R111, R121: each slot of the frame is the touch record of its own six bytes, and of nothing else. -/
def Obligations.DecodeMultitouchLanes : Prop :=
  ∀ (s : State) (b0 b1 b2 b3 b4 b5 b6 b7 b8 b9 b10 b11 : Byte), s.seq = .idle →
    let lane0 := decodeTouch #v[b0, b1, b2, b3, b4, b5]
    let lane1 := decodeTouch #v[b6, b7, b8, b9, b10, b11]
    exec (.decodeMultitouch b0 b1 b2 b3 b4 b5 b6 b7 b8 b9 b10 b11) s = .next (s.endedWith [] 0x00 (.multiTouch
      { detected := true
        x := #v[lane0.x, lane1.x]
        y := #v[lane0.y, lane1.y]
        weight := #v[b4, b10]
        area := #v[b5, b11] }))

/-- R86, R112, R81: the code's kind as a number; seven codes are defined, every other byte is Fault. -/
def Obligations.GestureCodesDecode : Prop :=
  ∀ (s : State) (b : Byte), s.seq = .idle →
    let kind : BitVec 3 :=
      if b = 0x00 then 0 else if b = 0x10 then 1 else if b = 0x14 then 2 else if b = 0x18 then 3
      else if b = 0x1C then 4 else if b = 0x48 then 5 else if b = 0x49 then 6 else 7
    exec (.decodeGesture b) s = .next (s.endedWith [] 0x00 (.gesture kind)) ∧
    (s.busReply 1 = .ok #v[b] →
      exec .readGestureId s = .next
        ((s.busDone (.busWriteRead s.cfg.devAddr [0x01] 1 (.ok [b]))).endedWith [] 0x00 (.gesture kind)))

/-- R113, R123, R129: the whole byte is compared; a mismatch is ProtocolError with the byte received. -/
def Obligations.ChipIdIsChecked : Prop :=
  ∀ (s : State) (b : Byte), s.seq = .idle →
    let status : Byte := if b = s.cfg.chipIdExpected then 0x00 else 0x02
    let payload : Payload := if b = s.cfg.chipIdExpected then .byte b else .idMismatch b
    exec (.decodeChipId b) s = .next (s.endedWith [] status payload) ∧
    (s.busReply 1 = .ok #v[b] →
      exec .readChipId s = .next
        ((s.busDone (.busWriteRead s.cfg.devAddr [0xA8] 1 (.ok [b]))).endedWith [] status payload))

/-- R114, R124, R125: two ANDs and no shift. -/
def Obligations.DevModeIsMaskedTwice : Prop :=
  ∀ (s : State) (b : Byte), s.seq = .idle →
    let mode := (b &&& s.cfg.devModeBitMask) &&& s.cfg.devModeBitPosition
    exec (.decodeDevMode b) s = .next (s.endedWith [] 0x00 (.byte mode)) ∧
    (s.busReply 1 = .ok #v[b] →
      exec .readDevMode s = .next
        ((s.busDone (.busWriteRead s.cfg.devAddr [0x00] 1 (.ok [b]))).endedWith [] 0x00 (.byte mode)))

/-- R115 (a) to (c): one mask, zero where the two masks are disjoint, no bit outside both. -/
def Obligations.DevModeConsequences : Prop :=
  ∀ (c : Config) (b : Byte),
    decodeDevMode c b = b &&& (c.devModeBitMask &&& c.devModeBitPosition) ∧
    (c.devModeBitMask &&& c.devModeBitPosition = 0 → decodeDevMode c b = 0) ∧
    decodeDevMode c b &&& ~~~(c.devModeBitMask &&& c.devModeBitPosition) = 0

/-- R127, with the operand check of R74: slot 0 is read at 0x03, slot 1 at 0x09, any other slot is illegal. -/
def Obligations.ReadTouchReadsSlot : Prop :=
  ∀ (s : State) (slot : Byte), s.seq = .idle →
    (∀ base : Byte, (slot = 0 ∧ base = 0x03) ∨ (slot = 1 ∧ base = 0x09) →
      (∀ r : Vector Byte 6, s.busReply 6 = .ok r →
        exec (.readTouch slot) s = .next
          ((s.busDone (.busWriteRead s.cfg.devAddr [base] 6 (.ok r.toList))).endedWith [] 0x00
            (.touch (decodeTouch r)))) ∧
      (∀ d, s.busReply 6 = .err d →
        exec (.readTouch slot) s = .next
          ((s.busDone (.busWriteRead s.cfg.devAddr [base] 6 (.err d))).endedWith [] 0x01 (.busError d)))) ∧
    (2 ≤ slot.toNat → exec (.readTouch slot) s = .next (s.endedWith [] 0x06 .none))

/-- R128: one transaction of 12 bytes at 0x03; by R57 slot 0 is bytes 0 to 5 and slot 1 bytes 6 to 11. -/
def Obligations.ReadMultitouchReadsFrame : Prop :=
  ∀ (s : State) (r : Vector Byte 12), s.seq = .idle → s.busReply 12 = .ok r →
    let lane0 := decodeTouch #v[r[0], r[1], r[2], r[3], r[4], r[5]]
    let lane1 := decodeTouch #v[r[6], r[7], r[8], r[9], r[10], r[11]]
    exec .readMultitouch s = .next
      ((s.busDone (.busWriteRead s.cfg.devAddr [0x03] 12 (.ok r.toList))).endedWith [] 0x00
        (.multiTouch
          { detected := true
            x := #v[lane0.x, lane1.x]
            y := #v[lane0.y, lane1.y]
            weight := #v[r[4], r[10]]
            area := #v[r[5], r[11]] }))

/-- R130, R131: raw bytes, not combined. -/
def Obligations.VersionsAreRaw : Prop :=
  ∀ s : State, s.seq = .idle →
    (∀ b : Byte, s.busReply 1 = .ok #v[b] →
      exec .readFirmwareId s = .next
        ((s.busDone (.busWriteRead s.cfg.devAddr [0xA6] 1 (.ok [b]))).endedWith [] 0x00 (.byte b))) ∧
    (∀ b0 b1 : Byte, s.busReply 2 = .ok #v[b0, b1] →
      exec .readLibVersion s = .next
        ((s.busDone (.busWriteRead s.cfg.devAddr [0xA1] 2 (.ok [b0, b1]))).endedWith [] 0x00 (.bytes [b0, b1])))

/-- R145: the clamp, and a clamped count is no error. -/
def Obligations.DetectTouchClamps : Prop :=
  ∀ (s : State) (b : Byte), s.seq = .idle → s.busReply 1 = .ok #v[b] →
    exec .detectTouch s = .next
      ((s.busDone (.busWriteRead s.cfg.devAddr [0x02] 1 (.ok [b]))).endedWith [] 0x00
        (.count (if (b &&& s.cfg.tdCountMask).toNat ≤ 2 then (b &&& s.cfg.tdCountMask).toNat else 0)))

/-- The commands of one read, with the address and the number of bytes R60 gives each. -/
def Obligations.BusErrorEndsReads : Prop :=
  ∀ (s : State) (i : Instr) (addr : Byte) (n : Nat) (d : BusErrDetail), s.seq = .idle →
    (i, addr, n) ∈ ([(.readDevMode, 0x00, 1), (.readGestureId, 0x01, 1), (.detectTouch, 0x02, 1),
      (.readMultitouch, 0x03, 12), (.readChipId, 0xA8, 1), (.readFirmwareId, 0xA6, 1), (.readLibVersion, 0xA1, 2),
      (.giRead, regGestureInit s.cfg, 6)] : List (Instr × Byte × Nat)) →
    s.busReply n = .err d →
    exec i s = .next
      ((s.busDone (.busWriteRead s.cfg.devAddr [addr] n (.err d))).endedWith [] 0x01 (.busError d))

/-! ## Calibration (42_calibration.md) -/

/-- R141: the factory-mode request, from Idle. -/
def Obligations.CalibrateRequestsFactoryMode : Prop :=
  ∀ s : State, s.seq = .idle →
    (s.writeReply = .ok →
      exec .calibrate s = .next
        { s.busDone (.busWrite s.cfg.devAddr [0x00, s.cfg.devModeFactory] .ok) with
          seq := .busy .calibrate 1, calState := CalState.factoryModeRequested.code, calAttempt := 0 }) ∧
    (∀ d, s.writeReply = .err d →
      exec .calibrate s = .next
        ({ s.busDone (.busWrite s.cfg.devAddr [0x00, s.cfg.devModeFactory] (.err d)) with
          calState := CalState.aborted.code, calAttempt := 0 }.endedWith [] 0x01 (.busError d)))

/-- R142, R143: one settle delay after the request, one inter-poll delay between polls; then the next poll starts. That
the poll's registers are set in the step of the delay before it is the model's reading (log entry 8). -/
def Obligations.CalibrateDelaysBeforePolls : Prop :=
  ∀ (s : State) (k : Nat), s.seq = .busy .calibrate k → k % 2 = 1 →
    exec .calibrate s = .next
      { s with
        seq := .busy .calibrate (k + 1)
        calState := CalState.polling.code
        calAttempt := s.calAttempt + 1
        hist := s.hist ++ [.delay (if k = 1 then 300 else 200)] }

/-- R143: poll `n`, `n` being CAL_ATTEMPT: working, not working with polls left, not working at poll 100, failed. -/
def Obligations.CalibratePolls : Prop :=
  ∀ (s : State) (k : Nat), s.seq = .busy .calibrate k → k ≠ 0 → k % 2 = 0 →
    (∀ b : Byte, s.busReply 1 = .ok #v[b] →
      let t := s.busDone (.busWriteRead s.cfg.devAddr [0x00] 1 (.ok [b]))
      let mode := (b &&& s.cfg.devModeBitMask) &&& s.cfg.devModeBitPosition
      (mode = s.cfg.devModeWorking →
        exec .calibrate s = .next
          ({ t with calState := CalState.calibrated.code }.endedWith [] 0x00 (.count s.calAttempt.toNat))) ∧
      (mode ≠ s.cfg.devModeWorking → s.calAttempt.toNat < 100 →
        exec .calibrate s = .next { t with seq := .busy .calibrate (k + 1) }) ∧
      (mode ≠ s.cfg.devModeWorking → 100 ≤ s.calAttempt.toNat →
        exec .calibrate s = .next ({ t with calState := CalState.timedOut.code }.endedWith [] 0x03 .none))) ∧
    (∀ d, s.busReply 1 = .err d →
      exec .calibrate s = .next
        ({ s.busDone (.busWriteRead s.cfg.devAddr [0x00] 1 (.err d)) with calState := CalState.aborted.code }.endedWith
          [] 0x01 (.busError d)))

/-- R144: the transitions of CAL_STATE over one step of any command; none but CALIBRATE's changes it. What counts as one
step is the model's reading (log entry 8). -/
def Obligations.CalStateTransitions : Prop :=
  ∀ (s t : State) (i : Instr), s.Inv → exec i s = .next t →
    (t.calState = s.calState ∧ t.calAttempt = s.calAttempt) ∨
    (i = .calibrate ∧
      ((s.seq = .idle ∧ t.calAttempt = 0 ∧
          (t.calState = CalState.factoryModeRequested.code ∨ t.calState = CalState.aborted.code)) ∨
        (s.calState = CalState.factoryModeRequested.code ∧ t.calState = CalState.polling.code ∧ t.calAttempt = 1) ∨
        (s.calState = CalState.polling.code ∧ t.calState = CalState.polling.code ∧
          s.calAttempt.toNat < 100 ∧ t.calAttempt.toNat = s.calAttempt.toNat + 1) ∨
        (s.calState = CalState.polling.code ∧ t.calState = CalState.calibrated.code ∧ t.calAttempt = s.calAttempt) ∨
        (s.calState = CalState.polling.code ∧ t.calState = CalState.aborted.code ∧ t.calAttempt = s.calAttempt) ∨
        (s.calState = CalState.polling.code ∧ s.calAttempt = 100 ∧ t.calState = CalState.timedOut.code ∧
          t.calAttempt = s.calAttempt)))

/-- R148: a device that reports working mode for the first time at poll `k = misses.length + 1` makes CALIBRATE end `OK,
k` after exactly `k` polls, `k - 1` inter-poll delays and one settle delay; a device that does not report it at any of
the 100 polls makes it end CalibrationTimeout after exactly 100 polls and 99 inter-poll delays. The number of steps
follows log entry 8. -/
def Obligations.CalibratePollCount : Prop :=
  ∀ (s : State) (ws : List (List Byte)) (ack misses : List Byte) (last : Byte) (rest : List BusAnswer),
    s.seq = .idle → s.env.words = [0x30] :: ws →
    s.env.busScript = .ok ack :: misses.map (fun b => .ok [b]) ++ .ok [last] :: rest →
    misses.length < 100 →
    (∀ b ∈ misses, (b &&& s.cfg.devModeBitMask) &&& s.cfg.devModeBitPosition ≠ s.cfg.devModeWorking) →
    let mode := (last &&& s.cfg.devModeBitMask) &&& s.cfg.devModeBitPosition
    let evs : List Event := [.busWrite s.cfg.devAddr [0x00, s.cfg.devModeFactory] .ok, .delay 300] ++
      misses.flatMap (fun b => [.busWriteRead s.cfg.devAddr [0x00] 1 (.ok [b]), .delay 200]) ++
      [.busWriteRead s.cfg.devAddr [0x00] 1 (.ok [last])]
    let t : State :=
      { s with
        calAttempt := BitVec.ofNat 7 (misses.length + 1)
        env := { s.env with words := ws, busScript := rest, draws := s.env.draws + misses.length + 2 } }
    (mode = s.cfg.devModeWorking →
      runSteps (2 * misses.length + 3) s = .next
        ({ t with calState := CalState.calibrated.code }.endedWith evs 0x00 (.count (misses.length + 1)))) ∧
    (mode ≠ s.cfg.devModeWorking → misses.length = 99 →
      runSteps (2 * misses.length + 3) s = .next
        ({ t with calState := CalState.timedOut.code }.endedWith evs 0x03 .none))

/-- R149: whatever the device answers, a CALIBRATE ends: at most 1 write, 100 reads, 100 delays, 20100 ms requested. The
bound on the steps follows log entry 8. -/
def Obligations.CalibrateAlwaysEnds : Prop :=
  ∀ (s : State) (ws : List (List Byte)), s.seq = .idle → s.env.words = [0x30] :: ws →
    ∃ (n : Nat) (t : State) (evs : List Event),
      n ≤ 201 ∧ runSteps n s = .next t ∧ t.seq = .idle ∧ t.hist = s.hist ++ evs ++ [.commandEnd t.status] ∧
      t.env.words = ws ∧
      (evs.filter fun e => match e with | .busWrite _ _ _ => true | _ => false).length ≤ 1 ∧
      (evs.filter fun e => match e with | .busWriteRead _ _ _ _ => true | _ => false).length ≤ 100 ∧
      (evs.filter fun e => match e with | .delay _ => true | _ => false).length ≤ 100 ∧
      (evs.map fun e => match e with | .delay ms => ms | _ => 0).sum ≤ 20100

/-- R115's last sentence: where the working value has a bit outside both masks, a step of CALIBRATE that ends it ends it
BusError or CalibrationTimeout, never Calibrated. -/
def Obligations.CalibrateNeedsReachableMode : Prop :=
  ∀ s t : State, s.cfg.devModeWorking &&& ~~~(s.cfg.devModeBitMask &&& s.cfg.devModeBitPosition) ≠ 0 →
    exec .calibrate s = .next t → t.seq = .idle →
    (t.status = 0x01 ∧ t.calState = CalState.aborted.code) ∨
      (t.status = 0x03 ∧ t.calState = CalState.timedOut.code ∧ 100 ≤ t.calAttempt.toNat)

/-! ## Touch polling (42_calibration.md R146, R147) -/

/-- R146, R147: a count read of GET_COORDINATES, the first from Idle or a later one. A read that succeeds is counted; a
count that does not clamp to 0 ends the polling, one that does goes on or uses up the budget; a read that fails ends the
command and is not counted. That the count is raised in the step of its read (log entry 8), that the read which uses up
the budget ends the command in its own step (log entry 16), and that `recordDue` marks the end of the polling (log entry
9) is the model's reading. -/
def Obligations.GetCoordinatesCountReads : Prop :=
  ∀ (s : State) (k polls : Nat),
    (s.seq = .idle ∧ k = 0 ∧ polls = 0) ∨
      (s.seq = .busy .getCoordinates k ∧ s.recordDue = false ∧ polls = s.coordPolls) →
    (∀ b : Byte, s.busReply 1 = .ok #v[b] →
      let t := { s.busDone (.busWriteRead s.cfg.devAddr [0x02] 1 (.ok [b])) with coordPolls := polls + 1 }
      (clampCount s.cfg b ≠ 0 →
        exec .getCoordinates s = .next { t with seq := .busy .getCoordinates (k + 1), recordDue := true }) ∧
      (clampCount s.cfg b = 0 → s.cfg.coordPollBudget.map Subtype.val = some (polls + 1) →
        exec .getCoordinates s = .next ({ t with recordDue := false }.endedWith [] 0x08 .none)) ∧
      (clampCount s.cfg b = 0 → s.cfg.coordPollBudget.map Subtype.val ≠ some (polls + 1) →
        exec .getCoordinates s = .next { t with seq := .busy .getCoordinates (k + 1), recordDue := false })) ∧
    (∀ d, s.busReply 1 = .err d →
      exec .getCoordinates s = .next
        ({ s.busDone (.busWriteRead s.cfg.devAddr [0x02] 1 (.err d)) with
          coordPolls := polls, recordDue := false }.endedWith [] 0x01 (.busError d)))

/-- R146: the record read, once a count is not 0 (`recordDue`, log entry 9): 6 bytes at 0x03, and the pair (x, y) is the
result. -/
def Obligations.GetCoordinatesReadsRecord : Prop :=
  ∀ (s : State) (k : Nat), s.seq = .busy .getCoordinates k → s.recordDue = true →
    (∀ r : Vector Byte 6, s.busReply 6 = .ok r →
      exec .getCoordinates s = .next
        ({ s.busDone (.busWriteRead s.cfg.devAddr [0x03] 6 (.ok r.toList)) with recordDue := false }.endedWith [] 0x00
          (.point (decodeTouch r).x (decodeTouch r).y))) ∧
    (∀ d, s.busReply 6 = .err d →
      exec .getCoordinates s = .next
        ({ s.busDone (.busWriteRead s.cfg.devAddr [0x03] 6 (.err d)) with recordDue := false }.endedWith [] 0x01
          (.busError d)))

/-- R146: counts that clamp to 0, then one that does not, then a record: the whole of a GET_COORDINATES. The number of
steps follows log entry 8; `recordDue` is the model's own flag (log entry 9). -/
def Obligations.GetCoordinatesWaitsForTouch : Prop :=
  ∀ (s : State) (ws : List (List Byte)) (zeros : List Byte) (c : Byte) (r : Vector Byte 6) (rest : List BusAnswer),
    s.seq = .idle → s.env.words = [0x31] :: ws →
    s.env.busScript = zeros.map (fun b => .ok [b]) ++ .ok [c] :: .ok r.toList :: rest →
    (∀ b ∈ zeros, clampCount s.cfg b = 0) → clampCount s.cfg c ≠ 0 →
    (∀ n, s.cfg.coordPollBudget = some n → zeros.length < n.val) →
    runSteps (zeros.length + 2) s = .next
      ({ s with
        recordDue := false
        coordPolls := zeros.length + 1
        env := { s.env with words := ws, busScript := rest, draws := s.env.draws + zeros.length + 2 } }.endedWith
        (zeros.map (fun b => Event.busWriteRead s.cfg.devAddr [0x02] 1 (.ok [b])) ++
          [Event.busWriteRead s.cfg.devAddr [0x02] 1 (.ok [c]), Event.busWriteRead s.cfg.devAddr [0x03] 6 (.ok r.toList)])
        0x00 (.point (decodeTouch r).x (decodeTouch r).y))

/-- R147: under a budget of N, a GET_COORDINATES whose N count reads clamp to 0 ends PollBudgetExhausted, and makes no
further read. The number of steps follows log entries 8 and 16; `recordDue` is the model's own flag (log entry 9). -/
def Obligations.PollBudgetEndsTheWait : Prop :=
  ∀ (s : State) (ws : List (List Byte)) (zeros : List Byte) (rest : List BusAnswer),
    s.seq = .idle → s.env.words = [0x31] :: ws →
    s.env.busScript = zeros.map (fun b => .ok [b]) ++ rest →
    (∀ b ∈ zeros, clampCount s.cfg b = 0) → s.cfg.coordPollBudget.map Subtype.val = some zeros.length →
    runSteps zeros.length s = .next
      ({ s with
        recordDue := false
        coordPolls := zeros.length
        env := { s.env with words := ws, busScript := rest, draws := s.env.draws + zeros.length } }.endedWith
        (zeros.map (fun b => Event.busWriteRead s.cfg.devAddr [0x02] 1 (.ok [b]))) 0x08 .none)

/-- R147: without a budget, a device that answers every read with a count that clamps to 0 keeps GET_COORDINATES busy for
ever: after every number of steps the block is Busy, and has made that many count reads (one step, one read:
log entry 8). -/
def Obligations.GetCoordinatesCanSpinForever : Prop :=
  ∀ (s : State) (ws : List (List Byte)) (b : Byte),
    s.seq = .idle → s.env.words = [0x31] :: ws → s.env.busScript = [] → s.env.busTail = some (.ok [b]) →
    s.cfg.coordPollBudget = none → clampCount s.cfg b = 0 →
    ∀ n : Nat, 1 ≤ n → ∃ t, runSteps n s = .next t ∧ t.seq = .busy .getCoordinates n ∧ t.coordPolls = n ∧
      t.hist = s.hist ++ List.replicate n (.busWriteRead s.cfg.devAddr [0x02] 1 (.ok [b]))

/-! ## Gesture heuristic (43_gesture.md) -/

/-- R160 to R162: the first transfer of a GESTURE_DETECT, where the unit is present: the window is cleared (its x and y
entries take free values, log entry 12) and iteration 0 makes its first count read. A first read that fails, or that uses
up a budget of one, discards iteration 0, and iteration 1 starts in the same step (log entry 8). That the read which uses
up the budget ends its iteration in its own step (log entry 16), and that `recordDue` says which read is next (log entry
9), is the model's reading. -/
def Obligations.GestureDetectStarts : Prop :=
  ∀ s : State, s.seq = .idle → s.cfg.gestureFeature = true →
    ∃ xs ys : Vector Coord 19,
      let countRead (o : ReadOutcome) : State :=
        { s.busDone (.busWriteRead s.cfg.devAddr [0x02] 1 o) with
          seq := .busy .gestureDetect 1, smpX := xs, smpY := ys, smpN := 0, smpOk := 0 }
      let counted (b : Byte) (touch : Bool) : State :=
        { countRead (.ok [b]) with smpIter := 1, coordPolls := 1, recordDue := touch }
      let discarded (o : ReadOutcome) : State :=
        { countRead o with
          smpIter := 2
          coordPolls := 0
          recordDue := false
          hist := s.hist ++ [.busWriteRead s.cfg.devAddr [0x02] 1 o, .sampleDiscarded 0] }
      (∀ b : Byte, s.busReply 1 = .ok #v[b] →
        (clampCount s.cfg b ≠ 0 → exec .gestureDetect s = .next (counted b true)) ∧
        (clampCount s.cfg b = 0 → s.cfg.coordPollBudget.map Subtype.val ≠ some 1 →
          exec .gestureDetect s = .next (counted b false)) ∧
        (clampCount s.cfg b = 0 → s.cfg.coordPollBudget.map Subtype.val = some 1 →
          exec .gestureDetect s = .next (discarded (.ok [b])))) ∧
      (∀ d, s.busReply 1 = .err d → exec .gestureDetect s = .next (discarded (.err d)))

/-- R162: a read `e` that fails, or that uses up the poll budget, in iteration `i` discards the iteration: one
SampleDiscarded(i) event, no sample, and the next iteration starts in the same step (`i < 18`; log entry 8) or the command
ends OK with the kind of the samples it has (`i = 18`; R163 to R166). That `recordDue` says which read it is (log entry 9),
and that the read which uses up the budget ends its iteration in its own step (log entry 16), is the model's reading. -/
def Obligations.GestureDiscardsFailedSample : Prop :=
  ∀ (s : State) (k polls : Nat) (e : Event), s.seq = .busy .gestureDetect k → 1 ≤ s.smpIter.toNat →
    (∃ d, s.nextBusAnswer = .err d ∧ polls = s.coordPolls ∧
        e = if s.recordDue then .busWriteRead s.cfg.devAddr [0x03] 6 (.err d)
          else .busWriteRead s.cfg.devAddr [0x02] 1 (.err d)) ∨
      (∃ b, s.recordDue = false ∧ s.busReply 1 = .ok #v[b] ∧ clampCount s.cfg b = 0 ∧
        s.cfg.coordPollBudget.map Subtype.val = some (s.coordPolls + 1) ∧ polls = s.coordPolls + 1 ∧
        e = .busWriteRead s.cfg.devAddr [0x02] 1 (.ok [b])) →
    let i := s.smpIter.toNat - 1
    (i < 18 →
      exec .gestureDetect s = .next
        { s with
          seq := .busy .gestureDetect (k + 1)
          recordDue := false
          smpIter := s.smpIter + 1
          coordPolls := 0
          hist := s.hist ++ [e, .sampleDiscarded i]
          env := s.env.afterBus }) ∧
    (i = 18 → s.smpN.toNat ≤ 18 →
      exec .gestureDetect s = .next
        ({ s with recordDue := false, coordPolls := polls, env := s.env.afterBus }.endedWith [e, .sampleDiscarded i]
          0x00 (.gesture (gestureCode (swipeKind s.sampleSeq)))))

/-- R160, R161: the reads of iteration `i` that neither fail nor use up the budget. A count read goes on polling, or makes
the record read next; the record read stores its sample at the next free entry under Compact, in slot `i` under SlotKeep,
and the next iteration starts in the same step (`i < 18`; log entry 8) or the command ends OK with the kind of the samples
it has, this one among them (`i = 18`; R163 to R166). That `recordDue` says which read it is and which comes next (log entry
9), and that the budget is checked in the step of the read that may use it up (log entry 16), is the model's reading. -/
def Obligations.GestureTakesSample : Prop :=
  ∀ (s : State) (k : Nat), s.seq = .busy .gestureDetect k →
    (∀ b : Byte, s.recordDue = false → s.busReply 1 = .ok #v[b] →
      let t : State :=
        { s.busDone (.busWriteRead s.cfg.devAddr [0x02] 1 (.ok [b])) with
          seq := .busy .gestureDetect (k + 1), coordPolls := s.coordPolls + 1 }
      (clampCount s.cfg b ≠ 0 → exec .gestureDetect s = .next { t with recordDue := true }) ∧
      (clampCount s.cfg b = 0 → s.cfg.coordPollBudget.map Subtype.val ≠ some (s.coordPolls + 1) →
        exec .gestureDetect s = .next t)) ∧
    (∀ (r : Vector Byte 6) (i entry : Fin 19), s.recordDue = true → s.busReply 6 = .ok r →
      s.smpIter.toNat = i.val + 1 →
      (s.cfg.sampleDiscardPolicy = .compact → entry.val = s.smpN.toNat) →
      (s.cfg.sampleDiscardPolicy = .slotKeep → entry = i) →
      let t : State :=
        { s.busDone (.busWriteRead s.cfg.devAddr [0x03] 6 (.ok r.toList)) with
          recordDue := false
          smpX := s.smpX.set entry (decodeTouch r).x
          smpY := s.smpY.set entry (decodeTouch r).y
          smpOk := s.smpOk ||| 1#19 <<< i.val
          smpN := s.smpN + 1 }
      (i.val < 18 →
        exec .gestureDetect s = .next
          { t with seq := .busy .gestureDetect (k + 1), smpIter := s.smpIter + 1, coordPolls := 0 }) ∧
      (i.val = 18 →
        exec .gestureDetect s = .next (t.endedWith [] 0x00 (.gesture (gestureCode (swipeKind t.sampleSeq))))))

/-- R160 to R165: the whole of a GESTURE_DETECT that ends, whatever each of its nineteen iterations comes to, under either
policy. `SMP_OK` marks the iterations that yielded a sample; under Compact the sample sequence is the samples in order,
under SlotKeep each sample stands in the slot of its iteration (the other slots hold free values, log entry 12); the
result is the kind of that sequence. The number of steps follows log entries 8 and 16; `recordDue` is the model's own flag
(log entry 9). -/
def Obligations.GestureClassifiesSwipe : Prop :=
  ∀ (s : State) (ws : List (List Byte)) (its : Vector Iteration 19) (rest : List BusAnswer),
    s.seq = .idle → s.env.words = [0x32] :: ws → s.cfg.gestureFeature = true →
    s.env.busScript = its.toList.flatMap Iteration.answers ++ rest → (∀ it ∈ its.toList, it.fits s.cfg) →
    let samples := its.toList.filterMap Iteration.sample
    let reads := (its.toList.flatMap Iteration.answers).length
    ∃ t, runSteps reads s = .next t ∧
      (∀ i : Fin 19, t.smpOk.getLsbD i = its[i].sample.isSome) ∧
      (s.cfg.sampleDiscardPolicy = .compact → t.sampleSeq = samples) ∧
      (s.cfg.sampleDiscardPolicy = .slotKeep →
        ∀ (i : Fin 19) (x y : Coord), its[i].sample = some (x, y) → t.smpX[i] = x ∧ t.smpY[i] = y) ∧
      t = { s with
        recordDue := false
        smpX := t.smpX
        smpY := t.smpY
        smpOk := t.smpOk
        smpN := BitVec.ofNat 5 samples.length
        smpIter := 19
        coordPolls := its[18].polls
        env := { s.env with words := ws, busScript := rest, draws := s.env.draws + reads } }.endedWith
        ((List.finRange 19).flatMap fun i : Fin 19 => its[i].events s.cfg i) 0x00
        (.gesture (gestureCode (swipeKind t.sampleSeq)))

/-- R162, R166: under Compact, a GESTURE_DETECT whose iterations yield no sample or one sample ends OK with the result
Fault, whatever made the others fail. The number of steps follows log entries 8 and 16. -/
def Obligations.GestureWithFewSamplesIsFault : Prop :=
  ∀ (s : State) (ws : List (List Byte)) (its : Vector Iteration 19) (rest : List BusAnswer),
    s.seq = .idle → s.env.words = [0x32] :: ws → s.cfg.gestureFeature = true →
    s.cfg.sampleDiscardPolicy = .compact →
    s.env.busScript = its.toList.flatMap Iteration.answers ++ rest → (∀ it ∈ its.toList, it.fits s.cfg) →
    (its.toList.filterMap Iteration.sample).length ≤ 1 →
    ∃ t, runSteps (its.toList.flatMap Iteration.answers).length s = .next t ∧
      t.seq = .idle ∧ t.status = 0x00 ∧ t.result = .gesture 7 ∧
      t.smpN.toNat = (its.toList.filterMap Iteration.sample).length ∧ t.smpIter = 19 ∧
      (∀ i : Fin 19, t.smpOk.getLsbD i = its[i].sample.isSome) ∧
      t.hist = s.hist ++ ((List.finRange 19).flatMap fun i : Fin 19 => its[i].events s.cfg i) ++ [.commandEnd 0x00]

/-- R165, over all integers: the bound is exclusive, the larger delta decides, downward motion is Left, and equal
magnitudes (`dx = dy` and `dx = -dy`) are Fault. -/
def Obligations.ClassifierRules : Prop :=
  ∀ dx dy : Int,
    (|dx| > 100 ∨ |dy| > 100 → classify dx dy = .fault) ∧
    (|dx| ≤ 100 ∧ |dy| ≤ 100 →
      (|dx| > |dy| → dx > 0 → classify dx dy = .right) ∧
      (|dx| > |dy| → dx < 0 → classify dx dy = .left) ∧
      (|dx| < |dy| → dy > 0 → classify dx dy = .up) ∧
      (|dx| < |dy| → dy < 0 → classify dx dy = .left) ∧
      (dx = dy ∨ dx = -dy → classify dx dy = .fault))

/-- R166: where the unit is present, a step of GESTURE_DETECT that ends it ends it OK, with Right, Left, Up or Fault. -/
def Obligations.GestureResultKinds : Prop :=
  ∀ s t : State, (s.seq = .idle → s.cfg.gestureFeature = true) → exec .gestureDetect s = .next t → t.seq = .idle →
    t.status = 0x00 ∧
    (t.result = .gesture 1 ∨ t.result = .gesture 2 ∨ t.result = .gesture 4 ∨ t.result = .gesture 7)

/-! ## Platform (44_platform.md) -/

/-- R180: the cache takes the six bytes; a failed read leaves it. -/
def Obligations.GiReadLoadsCache : Prop :=
  ∀ s : State, s.seq = .idle →
    (∀ b : Vector Byte 6, s.busReply 6 = .ok b →
      exec .giRead s = .next
        ({ s.busDone (.busWriteRead s.cfg.devAddr [BitVec.ofNat 8 s.cfg.gestureInitBase.val] 6 (.ok b.toList)) with
          giCache := b, giValid := true }.endedWith [] 0x00
          (.gestureInit ⟨b[0], b[1], b[2], b[3], b[4], b[5]⟩))) ∧
    (∀ d, s.busReply 6 = .err d →
      exec .giRead s = .next
        ((s.busDone (.busWriteRead s.cfg.devAddr [BitVec.ofNat 8 s.cfg.gestureInitBase.val] 6 (.err d))).endedWith
          [] 0x01 (.busError d)))

/-- R181. -/
def Obligations.GiSetLoadsCache : Prop :=
  ∀ (s : State) (b0 b1 b2 b3 b4 b5 : Byte), s.seq = .idle →
    exec (.giSet b0 b1 b2 b3 b4 b5) s = .next
      ({ s with giCache := #v[b0, b1, b2, b3, b4, b5], giValid := true }.endedWith [] 0x00 (.bytes []))

/-- R182: CacheEmpty before any transfer; otherwise the six cached bytes go out in one transaction and the cache stays. -/
def Obligations.GiWritePushesCache : Prop :=
  ∀ s : State, s.seq = .idle →
    (s.giValid = false → exec .giWrite s = .next (s.endedWith [] 0x07 .none)) ∧
    (s.giValid = true → s.writeReply = .ok →
      exec .giWrite s = .next
        ((s.busDone (.busWrite s.cfg.devAddr (BitVec.ofNat 8 s.cfg.gestureInitBase.val :: s.giCache.toList)
          .ok)).endedWith [] 0x00 (.bytes []))) ∧
    (∀ d, s.giValid = true → s.writeReply = .err d →
      exec .giWrite s = .next
        ((s.busDone (.busWrite s.cfg.devAddr (BitVec.ofNat 8 s.cfg.gestureInitBase.val :: s.giCache.toList)
          (.err d))).endedWith [] 0x01 (.busError d)))

/-- R183: the whole run of GI_SET, GI_WRITE, GI_READ (one step each, log entry 8). GI_WRITE puts the bytes of GI_SET on
the bus; GI_READ returns what the device answers; and with a device that echoes, which answers the bytes of the write
event, it returns the bytes of GI_SET. -/
def Obligations.GestureInitRoundTrip : Prop :=
  ∀ (s : State) (ws : List (List Byte)) (p0 p1 p2 p3 p4 p5 : Byte) (ack : List Byte) (answer : Vector Byte 6)
    (rest : List BusAnswer),
    s.seq = .idle → s.env.words = [0x41, p0, p1, p2, p3, p4, p5] :: [0x42] :: [0x40] :: ws →
    s.env.busScript = .ok ack :: .ok answer.toList :: rest →
    let base := BitVec.ofNat 8 s.cfg.gestureInitBase.val
    ∃ t, runSteps 3 s = .next t ∧
      t = { s with
        giCache := answer
        giValid := true
        env := { s.env with words := ws, busScript := rest, draws := s.env.draws + 2 } }.endedWith
        [.commandEnd 0x00, .busWrite s.cfg.devAddr [base, p0, p1, p2, p3, p4, p5] .ok, .commandEnd 0x00,
          .busWriteRead s.cfg.devAddr [base] 6 (.ok answer.toList)]
        0x00 (.gestureInit ⟨answer[0], answer[1], answer[2], answer[3], answer[4], answer[5]⟩) ∧
      ((∀ data, .busWrite s.cfg.devAddr (base :: data) .ok ∈ t.hist.drop s.hist.length → answer.toList = data) →
        t.result = .gestureInit ⟨p0, p1, p2, p3, p4, p5⟩ ∧ t.giCache = #v[p0, p1, p2, p3, p4, p5])

/-- R184: the capability ROM is the result; by the invariant it is the constant of R30. -/
def Obligations.GetCapabilitiesReturnsRom : Prop :=
  ∀ s : State, s.seq = .idle → s.cap = capabilitiesOf s.cfg →
    exec .getCapabilities s = .next (s.endedWith [] 0x00
      (.capabilities
        { multiTouch := true, hwGesture := false, maxTouches := 2, maxWidth := s.cfg.maxWidth,
          maxHeight := s.cfg.maxHeight }))

/-- R185: the three transfers of HARD_RESET, where the helper is present, each with its failure. -/
def Obligations.HardResetTransfers : Prop :=
  ∀ s : State,
    let pinned (l : Level) (o : PinOutcome) : State :=
      { s with
        env := { s.env with pinScript := s.env.pinScript.tail, draws := s.env.draws + 1 }
        hist := s.hist ++ [.pin l o] }
    (s.seq = .idle → s.cfg.resetHelper = true →
      (s.pinReply = .ok → exec .hardReset s = .next { pinned .low .ok with seq := .busy .hardReset 1 }) ∧
      (s.pinReply = .err → exec .hardReset s = .next ((pinned .low .err).endedWith [] 0x05 .none))) ∧
    (s.seq = .busy .hardReset 1 →
      exec .hardReset s = .next { s with seq := .busy .hardReset 2, hist := s.hist ++ [.delay 10] }) ∧
    (s.seq = .busy .hardReset 2 →
      (s.pinReply = .ok → exec .hardReset s = .next ((pinned .high .ok).endedWith [] 0x00 (.bytes []))) ∧
      (s.pinReply = .err → exec .hardReset s = .next ((pinned .high .err).endedWith [] 0x05 .none)))

/-- R185: low, 10 ms, high; nothing of the block but the output registers changes. The number of steps follows log entry
8. -/
def Obligations.HardResetPulse : Prop :=
  ∀ (s : State) (ws : List (List Byte)) (pins : List PinOutcome),
    s.seq = .idle → s.cfg.resetHelper = true → s.env.words = [0x50] :: ws →
    s.env.pinScript = .ok :: .ok :: pins →
    runSteps 3 s = .next
      ({ s with env := { s.env with words := ws, pinScript := pins, draws := s.env.draws + 2 } }.endedWith
        [.pin .low .ok, .delay 10, .pin .high .ok] 0x00 (.bytes []))

/-- R77: an optional command whose unit is absent ends IllegalCommand with no transfer. -/
def Obligations.AbsentUnitIsIllegal : Prop :=
  ∀ s : State, s.seq = .idle →
    (s.cfg.gestureFeature = false → exec .gestureDetect s = .next (s.endedWith [] 0x06 .none)) ∧
    (s.cfg.resetHelper = false → exec .hardReset s = .next (s.endedWith [] 0x06 .none))

/-! ## The whole machine -/

/-- The invariant holds at reset, whatever the configuration. -/
def Obligations.ResetMeetsInvariant : Prop :=
  ∀ c : Config, (State.ofConfig c).Inv

/-- Every step keeps the invariant: legal events at legal addresses, counters in range, a legal calibration state, the
capability ROM, and a sequencer that counts the transfers of the running command (steps as in log
entries 8 and 16); and the model's own flag `recordDue` is false wherever no record read can be next (log entry 9). -/
def Obligations.StepKeepsInvariant : Prop :=
  ∀ s t : State, s.Inv → step s = .next t → t.Inv

/-- R220: from a state of the invariant the machine never stops, neither with the model's own fault (log entry 10) nor
with a refusal: an error is a normal outcome of a command. -/
def Obligations.MachineNeverStops : Prop :=
  ∀ s : State, s.Inv → ∃ t, step s = .next t

/-- R33: which command writes which state. Everything else of the block is unchanged by every command. That the words
still to come stay (log entry 7), and that `recordDue` changes only under the two commands that poll for a touch (log
entry 9), is the model's choice and not R33's. -/
def Obligations.WriteSets : Prop :=
  ∀ (s t : State) (i : Instr), exec i s = .next t →
    t.cfg = s.cfg ∧ t.cap = s.cap ∧ t.env.words = s.env.words ∧
    (i ≠ .calibrate → t.calState = s.calState ∧ t.calAttempt = s.calAttempt) ∧
    (i ≠ .getCoordinates ∧ i ≠ .gestureDetect → t.coordPolls = s.coordPolls ∧ t.recordDue = s.recordDue) ∧
    (i ≠ .gestureDetect →
      t.smpX = s.smpX ∧ t.smpY = s.smpY ∧ t.smpOk = s.smpOk ∧ t.smpN = s.smpN ∧ t.smpIter = s.smpIter) ∧
    (i ≠ .giRead ∧ (∀ b0 b1 b2 b3 b4 b5, i ≠ .giSet b0 b1 b2 b3 b4 b5) →
      t.giCache = s.giCache ∧ t.giValid = s.giValid)

/-- R22, R32, R204, with the steps of log entry 8: one step of a command makes at most one transfer, appends to the
history and never rewrites it, and ends the command exactly by appending CommandEnd with the status it leaves in
STATUS. -/
def Obligations.OneTransferPerStep : Prop :=
  ∀ (s t : State) (i : Instr), exec i s = .next t →
    ∃ evs, t.hist = s.hist ++ evs ∧ (evs.filter Event.isTransfer).length ≤ 1 ∧
      (t.seq = .idle → evs.getLast? = some (.commandEnd t.status)) ∧
      (t.seq ≠ .idle → (evs.filter Event.isTransfer).length = 1 ∧ ∀ st, .commandEnd st ∉ evs)

/-- R51, R52, R60: a bus transaction that a step of a command makes is one of that command's own accesses: its registers
of the map, how many of them, and read or written. Only the three commands of the raw transport take an address from
their operands. -/
def Obligations.CommandsReachOwnRegisters : Prop :=
  ∀ (s t : State) (i : Instr) (e : Event), exec i s = .next t → e ∈ t.hist.drop s.hist.length → e.isBus = true →
    ∃ a ∈ Access.allowed s.cfg i, e.access = some a

/-- R32: no command reads the history: with another history in its place, a step does the same and appends the same. -/
def Obligations.HistoryIsNotRead : Prop :=
  ∀ (s t : State) (h : List Event), step s = .next t →
    ∃ evs, t.hist = s.hist ++ evs ∧ step (s.withHist h) = .next (t.withHist (h ++ evs))

/-- 10_state.md section 9: no command reads state that has no value before writing it. Two states that differ only in
such state take the same step, to states that differ only in such state. `STATUS` and `RESULT`, which the mask leaves out
on both sides, get the same values in both runs where the step ends a command (the block is Idle and the history has
grown), and keep their own in each run where it does not. -/
def Obligations.UnsetStateIsNotRead : Prop :=
  ∀ s s' t : State, s.masked = s'.masked → step s = .next t →
    ∃ t', step s' = .next t' ∧ t.masked = t'.masked ∧
      (t.seq = .idle ∧ t.hist ≠ s.hist → t.status = t'.status ∧ t.result = t'.result) ∧
      (¬ (t.seq = .idle ∧ t.hist ≠ s.hist) →
        t.status = s.status ∧ t.result = s.result ∧ t'.status = s'.status ∧ t'.result = s'.result)
end

