-- ==== Sys2Proof/Laws/Decode.lean ====
section
/-! SUPPORT. Sys2Proof/Laws/Decode.lean: what each operand reader of the decoder accepts, said once. -/

namespace Sys2Proof

theorem operandsN_ok {op : Byte} {i j : Instr} {l : List Byte} (h : operandsN op i l = .ok j) : l = [] ∧ j = i := by
  unfold operandsN at h
  split at h <;> simp_all

theorem operandsOne_ok {op : Byte} {f : Byte → Instr} {j : Instr} {l : List Byte} (h : operandsOne op f l = .ok j) :
    ∃ b, l = [b] ∧ j = f b := by
  unfold operandsOne at h
  split at h <;> simp_all

theorem operandsA_ok {op : Byte} {f : Byte → Byte → Instr} {j : Instr} {l : List Byte}
    (h : operandsA op f l = .ok j) : ∃ addr len, l = [addr, len] ∧ j = f addr len := by
  unfold operandsA at h
  split at h <;> simp_all

/-- Format W: the byte count is the length of the data, which therefore fits a byte. -/
theorem operandsW_ok {op : Byte} {f : Byte → List Byte → Instr} {j : Instr} {l : List Byte}
    (h : operandsW op f l = .ok j) :
    ∃ addr data, data.length < 256 ∧ l = addr :: BitVec.ofNat 8 data.length :: data ∧ j = f addr data := by
  unfold operandsW at h
  split at h
  · split at h
    next addr len data hl =>
      refine ⟨addr, data, by omega, ?_, by simp_all⟩
      rw [hl]
      simp
    · simp at h
  · simp at h

theorem operandsB6_ok {op : Byte} {f : Byte → Byte → Byte → Byte → Byte → Byte → Instr} {j : Instr} {l : List Byte}
    (h : operandsB6 op f l = .ok j) :
    ∃ b0 b1 b2 b3 b4 b5, l = [b0, b1, b2, b3, b4, b5] ∧ j = f b0 b1 b2 b3 b4 b5 := by
  unfold operandsB6 at h
  split at h <;> simp_all

theorem operandsB12_ok {op : Byte}
    {f : Byte → Byte → Byte → Byte → Byte → Byte → Byte → Byte → Byte → Byte → Byte → Byte → Instr} {j : Instr}
    {l : List Byte} (h : operandsB12 op f l = .ok j) :
    ∃ b0 b1 b2 b3 b4 b5 b6 b7 b8 b9 b10 b11, l = [b0, b1, b2, b3, b4, b5, b6, b7, b8, b9, b10, b11] ∧
      j = f b0 b1 b2 b3 b4 b5 b6 b7 b8 b9 b10 b11 := by
  unfold operandsB12 at h
  split at h <;> simp_all

/-- An opcode is known by its number. -/
theorem byte_eq_of_toNat {op : Byte} {n : Nat} (h : op.toNat = n) : op = BitVec.ofNat 8 n := by
  subst h
  simp

end Sys2Proof
end

