-- ==== Sys2Proof/Laws/State.lean ====
section
/-! SUPPORT. Sys2Proof/Laws/State.lean: for every update of the state and every field, what the field holds after it.
All are true by rfl (for clearWindow and gestureEnter after unfolding them), so that no proof unfolds a record update. -/

namespace Sys2Proof.Machine

variable (s : State)

/-! ### emit -/

@[simp] theorem State.emit_cfg (e : Event) : (s.emit e).cfg = s.cfg := rfl
@[simp] theorem State.emit_seq (e : Event) : (s.emit e).seq = s.seq := rfl
@[simp] theorem State.emit_recordDue (e : Event) : (s.emit e).recordDue = s.recordDue := rfl
@[simp] theorem State.emit_status (e : Event) : (s.emit e).status = s.status := rfl
@[simp] theorem State.emit_result (e : Event) : (s.emit e).result = s.result := rfl
@[simp] theorem State.emit_calState (e : Event) : (s.emit e).calState = s.calState := rfl
@[simp] theorem State.emit_calAttempt (e : Event) : (s.emit e).calAttempt = s.calAttempt := rfl
@[simp] theorem State.emit_giCache (e : Event) : (s.emit e).giCache = s.giCache := rfl
@[simp] theorem State.emit_giValid (e : Event) : (s.emit e).giValid = s.giValid := rfl
@[simp] theorem State.emit_smpX (e : Event) : (s.emit e).smpX = s.smpX := rfl
@[simp] theorem State.emit_smpY (e : Event) : (s.emit e).smpY = s.smpY := rfl
@[simp] theorem State.emit_smpOk (e : Event) : (s.emit e).smpOk = s.smpOk := rfl
@[simp] theorem State.emit_smpN (e : Event) : (s.emit e).smpN = s.smpN := rfl
@[simp] theorem State.emit_smpIter (e : Event) : (s.emit e).smpIter = s.smpIter := rfl
@[simp] theorem State.emit_coordPolls (e : Event) : (s.emit e).coordPolls = s.coordPolls := rfl
@[simp] theorem State.emit_cap (e : Event) : (s.emit e).cap = s.cap := rfl
@[simp] theorem State.emit_hist (e : Event) : (s.emit e).hist = s.hist ++ [e] := rfl
@[simp] theorem State.emit_env (e : Event) : (s.emit e).env = s.env := rfl
@[simp] theorem State.emit_nextBusAnswer (e : Event) : (s.emit e).nextBusAnswer = s.nextBusAnswer := rfl
@[simp] theorem State.emit_writeReply (e : Event) : (s.emit e).writeReply = s.writeReply := rfl
@[simp] theorem State.emit_pinReply (e : Event) : (s.emit e).pinReply = s.pinReply := rfl
@[simp] theorem State.emit_busReply (e : Event) (n : Nat) : (s.emit e).busReply n = s.busReply n := rfl

/-! ### endCommand -/

@[simp] theorem State.endCommand_cfg (st : Status) (p : Payload) : (s.endCommand st p).cfg = s.cfg := rfl
@[simp] theorem State.endCommand_seq (st : Status) (p : Payload) : (s.endCommand st p).seq = .idle := rfl
@[simp] theorem State.endCommand_recordDue (st : Status) (p : Payload) :
    (s.endCommand st p).recordDue = s.recordDue := rfl
@[simp] theorem State.endCommand_status (st : Status) (p : Payload) : (s.endCommand st p).status = st.code := rfl
@[simp] theorem State.endCommand_result (st : Status) (p : Payload) : (s.endCommand st p).result = p := rfl
@[simp] theorem State.endCommand_calState (st : Status) (p : Payload) :
    (s.endCommand st p).calState = s.calState := rfl
@[simp] theorem State.endCommand_calAttempt (st : Status) (p : Payload) :
    (s.endCommand st p).calAttempt = s.calAttempt := rfl
@[simp] theorem State.endCommand_giCache (st : Status) (p : Payload) : (s.endCommand st p).giCache = s.giCache := rfl
@[simp] theorem State.endCommand_giValid (st : Status) (p : Payload) : (s.endCommand st p).giValid = s.giValid := rfl
@[simp] theorem State.endCommand_smpX (st : Status) (p : Payload) : (s.endCommand st p).smpX = s.smpX := rfl
@[simp] theorem State.endCommand_smpY (st : Status) (p : Payload) : (s.endCommand st p).smpY = s.smpY := rfl
@[simp] theorem State.endCommand_smpOk (st : Status) (p : Payload) : (s.endCommand st p).smpOk = s.smpOk := rfl
@[simp] theorem State.endCommand_smpN (st : Status) (p : Payload) : (s.endCommand st p).smpN = s.smpN := rfl
@[simp] theorem State.endCommand_smpIter (st : Status) (p : Payload) : (s.endCommand st p).smpIter = s.smpIter := rfl
@[simp] theorem State.endCommand_coordPolls (st : Status) (p : Payload) :
    (s.endCommand st p).coordPolls = s.coordPolls := rfl
@[simp] theorem State.endCommand_cap (st : Status) (p : Payload) : (s.endCommand st p).cap = s.cap := rfl
@[simp] theorem State.endCommand_hist (st : Status) (p : Payload) :
    (s.endCommand st p).hist = s.hist ++ [.commandEnd st.code] := rfl
@[simp] theorem State.endCommand_env (st : Status) (p : Payload) : (s.endCommand st p).env = s.env := rfl
@[simp] theorem State.endCommand_nextBusAnswer (st : Status) (p : Payload) :
    (s.endCommand st p).nextBusAnswer = s.nextBusAnswer := rfl
@[simp] theorem State.endCommand_writeReply (st : Status) (p : Payload) :
    (s.endCommand st p).writeReply = s.writeReply := rfl
@[simp] theorem State.endCommand_pinReply (st : Status) (p : Payload) :
    (s.endCommand st p).pinReply = s.pinReply := rfl
@[simp] theorem State.endCommand_busReply (st : Status) (p : Payload) (n : Nat) :
    (s.endCommand st p).busReply n = s.busReply n := rfl

/-! ### ret -/

@[simp] theorem State.ret_cfg (p : Payload) : (s.ret p).cfg = s.cfg := rfl
@[simp] theorem State.ret_seq (p : Payload) : (s.ret p).seq = .idle := rfl
@[simp] theorem State.ret_recordDue (p : Payload) : (s.ret p).recordDue = s.recordDue := rfl
@[simp] theorem State.ret_status (p : Payload) : (s.ret p).status = 0x00 := rfl
@[simp] theorem State.ret_result (p : Payload) : (s.ret p).result = p := rfl
@[simp] theorem State.ret_calState (p : Payload) : (s.ret p).calState = s.calState := rfl
@[simp] theorem State.ret_calAttempt (p : Payload) : (s.ret p).calAttempt = s.calAttempt := rfl
@[simp] theorem State.ret_giCache (p : Payload) : (s.ret p).giCache = s.giCache := rfl
@[simp] theorem State.ret_giValid (p : Payload) : (s.ret p).giValid = s.giValid := rfl
@[simp] theorem State.ret_smpX (p : Payload) : (s.ret p).smpX = s.smpX := rfl
@[simp] theorem State.ret_smpY (p : Payload) : (s.ret p).smpY = s.smpY := rfl
@[simp] theorem State.ret_smpOk (p : Payload) : (s.ret p).smpOk = s.smpOk := rfl
@[simp] theorem State.ret_smpN (p : Payload) : (s.ret p).smpN = s.smpN := rfl
@[simp] theorem State.ret_smpIter (p : Payload) : (s.ret p).smpIter = s.smpIter := rfl
@[simp] theorem State.ret_coordPolls (p : Payload) : (s.ret p).coordPolls = s.coordPolls := rfl
@[simp] theorem State.ret_cap (p : Payload) : (s.ret p).cap = s.cap := rfl
@[simp] theorem State.ret_hist (p : Payload) : (s.ret p).hist = s.hist ++ [.commandEnd 0x00] := rfl
@[simp] theorem State.ret_env (p : Payload) : (s.ret p).env = s.env := rfl
@[simp] theorem State.ret_nextBusAnswer (p : Payload) : (s.ret p).nextBusAnswer = s.nextBusAnswer := rfl
@[simp] theorem State.ret_writeReply (p : Payload) : (s.ret p).writeReply = s.writeReply := rfl
@[simp] theorem State.ret_pinReply (p : Payload) : (s.ret p).pinReply = s.pinReply := rfl
@[simp] theorem State.ret_busReply (p : Payload) (n : Nat) : (s.ret p).busReply n = s.busReply n := rfl

/-! ### raise -/

@[simp] theorem State.raise_cfg (e : CmdError) : (s.raise e).cfg = s.cfg := rfl
@[simp] theorem State.raise_seq (e : CmdError) : (s.raise e).seq = .idle := rfl
@[simp] theorem State.raise_recordDue (e : CmdError) : (s.raise e).recordDue = s.recordDue := rfl
@[simp] theorem State.raise_status (e : CmdError) : (s.raise e).status = e.status.code := rfl
@[simp] theorem State.raise_result (e : CmdError) : (s.raise e).result = e.info := rfl
@[simp] theorem State.raise_calState (e : CmdError) : (s.raise e).calState = s.calState := rfl
@[simp] theorem State.raise_calAttempt (e : CmdError) : (s.raise e).calAttempt = s.calAttempt := rfl
@[simp] theorem State.raise_giCache (e : CmdError) : (s.raise e).giCache = s.giCache := rfl
@[simp] theorem State.raise_giValid (e : CmdError) : (s.raise e).giValid = s.giValid := rfl
@[simp] theorem State.raise_smpX (e : CmdError) : (s.raise e).smpX = s.smpX := rfl
@[simp] theorem State.raise_smpY (e : CmdError) : (s.raise e).smpY = s.smpY := rfl
@[simp] theorem State.raise_smpOk (e : CmdError) : (s.raise e).smpOk = s.smpOk := rfl
@[simp] theorem State.raise_smpN (e : CmdError) : (s.raise e).smpN = s.smpN := rfl
@[simp] theorem State.raise_smpIter (e : CmdError) : (s.raise e).smpIter = s.smpIter := rfl
@[simp] theorem State.raise_coordPolls (e : CmdError) : (s.raise e).coordPolls = s.coordPolls := rfl
@[simp] theorem State.raise_cap (e : CmdError) : (s.raise e).cap = s.cap := rfl
@[simp] theorem State.raise_hist (e : CmdError) : (s.raise e).hist = s.hist ++ [.commandEnd e.status.code] := rfl
@[simp] theorem State.raise_env (e : CmdError) : (s.raise e).env = s.env := rfl
@[simp] theorem State.raise_nextBusAnswer (e : CmdError) : (s.raise e).nextBusAnswer = s.nextBusAnswer := rfl
@[simp] theorem State.raise_writeReply (e : CmdError) : (s.raise e).writeReply = s.writeReply := rfl
@[simp] theorem State.raise_pinReply (e : CmdError) : (s.raise e).pinReply = s.pinReply := rfl
@[simp] theorem State.raise_busReply (e : CmdError) (n : Nat) : (s.raise e).busReply n = s.busReply n := rfl

/-! ### afterRead -/

@[simp] theorem State.afterRead_cfg (a : Byte) (n : Nat) : (s.afterRead a n).cfg = s.cfg := rfl
@[simp] theorem State.afterRead_seq (a : Byte) (n : Nat) : (s.afterRead a n).seq = s.seq := rfl
@[simp] theorem State.afterRead_recordDue (a : Byte) (n : Nat) : (s.afterRead a n).recordDue = s.recordDue := rfl
@[simp] theorem State.afterRead_status (a : Byte) (n : Nat) : (s.afterRead a n).status = s.status := rfl
@[simp] theorem State.afterRead_result (a : Byte) (n : Nat) : (s.afterRead a n).result = s.result := rfl
@[simp] theorem State.afterRead_calState (a : Byte) (n : Nat) : (s.afterRead a n).calState = s.calState := rfl
@[simp] theorem State.afterRead_calAttempt (a : Byte) (n : Nat) : (s.afterRead a n).calAttempt = s.calAttempt := rfl
@[simp] theorem State.afterRead_giCache (a : Byte) (n : Nat) : (s.afterRead a n).giCache = s.giCache := rfl
@[simp] theorem State.afterRead_giValid (a : Byte) (n : Nat) : (s.afterRead a n).giValid = s.giValid := rfl
@[simp] theorem State.afterRead_smpX (a : Byte) (n : Nat) : (s.afterRead a n).smpX = s.smpX := rfl
@[simp] theorem State.afterRead_smpY (a : Byte) (n : Nat) : (s.afterRead a n).smpY = s.smpY := rfl
@[simp] theorem State.afterRead_smpOk (a : Byte) (n : Nat) : (s.afterRead a n).smpOk = s.smpOk := rfl
@[simp] theorem State.afterRead_smpN (a : Byte) (n : Nat) : (s.afterRead a n).smpN = s.smpN := rfl
@[simp] theorem State.afterRead_smpIter (a : Byte) (n : Nat) : (s.afterRead a n).smpIter = s.smpIter := rfl
@[simp] theorem State.afterRead_coordPolls (a : Byte) (n : Nat) : (s.afterRead a n).coordPolls = s.coordPolls := rfl
@[simp] theorem State.afterRead_cap (a : Byte) (n : Nat) : (s.afterRead a n).cap = s.cap := rfl
@[simp] theorem State.afterRead_hist (a : Byte) (n : Nat) :
    (s.afterRead a n).hist = s.hist ++ [.busWriteRead s.cfg.devAddr [a] n (s.busReply n).outcome] := rfl
@[simp] theorem State.afterRead_env (a : Byte) (n : Nat) : (s.afterRead a n).env = s.env.afterBus := rfl

/-! ### afterWrite -/

@[simp] theorem State.afterWrite_cfg (a : Byte) (data : List Byte) : (s.afterWrite a data).cfg = s.cfg := rfl
@[simp] theorem State.afterWrite_seq (a : Byte) (data : List Byte) : (s.afterWrite a data).seq = s.seq := rfl
@[simp] theorem State.afterWrite_recordDue (a : Byte) (data : List Byte) :
    (s.afterWrite a data).recordDue = s.recordDue := rfl
@[simp] theorem State.afterWrite_status (a : Byte) (data : List Byte) : (s.afterWrite a data).status = s.status := rfl
@[simp] theorem State.afterWrite_result (a : Byte) (data : List Byte) : (s.afterWrite a data).result = s.result := rfl
@[simp] theorem State.afterWrite_calState (a : Byte) (data : List Byte) :
    (s.afterWrite a data).calState = s.calState := rfl
@[simp] theorem State.afterWrite_calAttempt (a : Byte) (data : List Byte) :
    (s.afterWrite a data).calAttempt = s.calAttempt := rfl
@[simp] theorem State.afterWrite_giCache (a : Byte) (data : List Byte) :
    (s.afterWrite a data).giCache = s.giCache := rfl
@[simp] theorem State.afterWrite_giValid (a : Byte) (data : List Byte) :
    (s.afterWrite a data).giValid = s.giValid := rfl
@[simp] theorem State.afterWrite_smpX (a : Byte) (data : List Byte) : (s.afterWrite a data).smpX = s.smpX := rfl
@[simp] theorem State.afterWrite_smpY (a : Byte) (data : List Byte) : (s.afterWrite a data).smpY = s.smpY := rfl
@[simp] theorem State.afterWrite_smpOk (a : Byte) (data : List Byte) : (s.afterWrite a data).smpOk = s.smpOk := rfl
@[simp] theorem State.afterWrite_smpN (a : Byte) (data : List Byte) : (s.afterWrite a data).smpN = s.smpN := rfl
@[simp] theorem State.afterWrite_smpIter (a : Byte) (data : List Byte) :
    (s.afterWrite a data).smpIter = s.smpIter := rfl
@[simp] theorem State.afterWrite_coordPolls (a : Byte) (data : List Byte) :
    (s.afterWrite a data).coordPolls = s.coordPolls := rfl
@[simp] theorem State.afterWrite_cap (a : Byte) (data : List Byte) : (s.afterWrite a data).cap = s.cap := rfl
@[simp] theorem State.afterWrite_hist (a : Byte) (data : List Byte) :
    (s.afterWrite a data).hist = s.hist ++ [.busWrite s.cfg.devAddr (a :: data) s.writeReply] := rfl
@[simp] theorem State.afterWrite_env (a : Byte) (data : List Byte) : (s.afterWrite a data).env = s.env.afterBus := rfl

/-! ### delay -/

@[simp] theorem State.delay_cfg (ms : Nat) : (s.delay ms).cfg = s.cfg := rfl
@[simp] theorem State.delay_seq (ms : Nat) : (s.delay ms).seq = s.seq := rfl
@[simp] theorem State.delay_recordDue (ms : Nat) : (s.delay ms).recordDue = s.recordDue := rfl
@[simp] theorem State.delay_status (ms : Nat) : (s.delay ms).status = s.status := rfl
@[simp] theorem State.delay_result (ms : Nat) : (s.delay ms).result = s.result := rfl
@[simp] theorem State.delay_calState (ms : Nat) : (s.delay ms).calState = s.calState := rfl
@[simp] theorem State.delay_calAttempt (ms : Nat) : (s.delay ms).calAttempt = s.calAttempt := rfl
@[simp] theorem State.delay_giCache (ms : Nat) : (s.delay ms).giCache = s.giCache := rfl
@[simp] theorem State.delay_giValid (ms : Nat) : (s.delay ms).giValid = s.giValid := rfl
@[simp] theorem State.delay_smpX (ms : Nat) : (s.delay ms).smpX = s.smpX := rfl
@[simp] theorem State.delay_smpY (ms : Nat) : (s.delay ms).smpY = s.smpY := rfl
@[simp] theorem State.delay_smpOk (ms : Nat) : (s.delay ms).smpOk = s.smpOk := rfl
@[simp] theorem State.delay_smpN (ms : Nat) : (s.delay ms).smpN = s.smpN := rfl
@[simp] theorem State.delay_smpIter (ms : Nat) : (s.delay ms).smpIter = s.smpIter := rfl
@[simp] theorem State.delay_coordPolls (ms : Nat) : (s.delay ms).coordPolls = s.coordPolls := rfl
@[simp] theorem State.delay_cap (ms : Nat) : (s.delay ms).cap = s.cap := rfl
@[simp] theorem State.delay_hist (ms : Nat) : (s.delay ms).hist = s.hist ++ [.delay ms] := rfl
@[simp] theorem State.delay_env (ms : Nat) : (s.delay ms).env = s.env := rfl
@[simp] theorem State.delay_nextBusAnswer (ms : Nat) : (s.delay ms).nextBusAnswer = s.nextBusAnswer := rfl
@[simp] theorem State.delay_writeReply (ms : Nat) : (s.delay ms).writeReply = s.writeReply := rfl
@[simp] theorem State.delay_pinReply (ms : Nat) : (s.delay ms).pinReply = s.pinReply := rfl
@[simp] theorem State.delay_busReply (ms : Nat) (n : Nat) : (s.delay ms).busReply n = s.busReply n := rfl

/-! ### afterPin -/

@[simp] theorem State.afterPin_cfg (l : Level) : (s.afterPin l).cfg = s.cfg := rfl
@[simp] theorem State.afterPin_seq (l : Level) : (s.afterPin l).seq = s.seq := rfl
@[simp] theorem State.afterPin_recordDue (l : Level) : (s.afterPin l).recordDue = s.recordDue := rfl
@[simp] theorem State.afterPin_status (l : Level) : (s.afterPin l).status = s.status := rfl
@[simp] theorem State.afterPin_result (l : Level) : (s.afterPin l).result = s.result := rfl
@[simp] theorem State.afterPin_calState (l : Level) : (s.afterPin l).calState = s.calState := rfl
@[simp] theorem State.afterPin_calAttempt (l : Level) : (s.afterPin l).calAttempt = s.calAttempt := rfl
@[simp] theorem State.afterPin_giCache (l : Level) : (s.afterPin l).giCache = s.giCache := rfl
@[simp] theorem State.afterPin_giValid (l : Level) : (s.afterPin l).giValid = s.giValid := rfl
@[simp] theorem State.afterPin_smpX (l : Level) : (s.afterPin l).smpX = s.smpX := rfl
@[simp] theorem State.afterPin_smpY (l : Level) : (s.afterPin l).smpY = s.smpY := rfl
@[simp] theorem State.afterPin_smpOk (l : Level) : (s.afterPin l).smpOk = s.smpOk := rfl
@[simp] theorem State.afterPin_smpN (l : Level) : (s.afterPin l).smpN = s.smpN := rfl
@[simp] theorem State.afterPin_smpIter (l : Level) : (s.afterPin l).smpIter = s.smpIter := rfl
@[simp] theorem State.afterPin_coordPolls (l : Level) : (s.afterPin l).coordPolls = s.coordPolls := rfl
@[simp] theorem State.afterPin_cap (l : Level) : (s.afterPin l).cap = s.cap := rfl
@[simp] theorem State.afterPin_hist (l : Level) : (s.afterPin l).hist = s.hist ++ [.pin l s.pinReply] := rfl
@[simp] theorem State.afterPin_env (l : Level) :
    (s.afterPin l).env = { s.env with pinScript := s.env.pinScript.tail, draws := s.env.draws + 1 } := rfl

/-! ### advance -/

@[simp] theorem State.advance_cfg (c : Instr) (k : Nat) : (s.advance c k).cfg = s.cfg := rfl
@[simp] theorem State.advance_seq (c : Instr) (k : Nat) : (s.advance c k).seq = .busy c k := rfl
@[simp] theorem State.advance_recordDue (c : Instr) (k : Nat) : (s.advance c k).recordDue = s.recordDue := rfl
@[simp] theorem State.advance_status (c : Instr) (k : Nat) : (s.advance c k).status = s.status := rfl
@[simp] theorem State.advance_result (c : Instr) (k : Nat) : (s.advance c k).result = s.result := rfl
@[simp] theorem State.advance_calState (c : Instr) (k : Nat) : (s.advance c k).calState = s.calState := rfl
@[simp] theorem State.advance_calAttempt (c : Instr) (k : Nat) : (s.advance c k).calAttempt = s.calAttempt := rfl
@[simp] theorem State.advance_giCache (c : Instr) (k : Nat) : (s.advance c k).giCache = s.giCache := rfl
@[simp] theorem State.advance_giValid (c : Instr) (k : Nat) : (s.advance c k).giValid = s.giValid := rfl
@[simp] theorem State.advance_smpX (c : Instr) (k : Nat) : (s.advance c k).smpX = s.smpX := rfl
@[simp] theorem State.advance_smpY (c : Instr) (k : Nat) : (s.advance c k).smpY = s.smpY := rfl
@[simp] theorem State.advance_smpOk (c : Instr) (k : Nat) : (s.advance c k).smpOk = s.smpOk := rfl
@[simp] theorem State.advance_smpN (c : Instr) (k : Nat) : (s.advance c k).smpN = s.smpN := rfl
@[simp] theorem State.advance_smpIter (c : Instr) (k : Nat) : (s.advance c k).smpIter = s.smpIter := rfl
@[simp] theorem State.advance_coordPolls (c : Instr) (k : Nat) : (s.advance c k).coordPolls = s.coordPolls := rfl
@[simp] theorem State.advance_cap (c : Instr) (k : Nat) : (s.advance c k).cap = s.cap := rfl
@[simp] theorem State.advance_hist (c : Instr) (k : Nat) : (s.advance c k).hist = s.hist := rfl
@[simp] theorem State.advance_env (c : Instr) (k : Nat) : (s.advance c k).env = s.env := rfl
@[simp] theorem State.advance_nextBusAnswer (c : Instr) (k : Nat) :
    (s.advance c k).nextBusAnswer = s.nextBusAnswer := rfl
@[simp] theorem State.advance_writeReply (c : Instr) (k : Nat) : (s.advance c k).writeReply = s.writeReply := rfl
@[simp] theorem State.advance_pinReply (c : Instr) (k : Nat) : (s.advance c k).pinReply = s.pinReply := rfl
@[simp] theorem State.advance_busReply (c : Instr) (k : Nat) (n : Nat) :
    (s.advance c k).busReply n = s.busReply n := rfl

/-! ### setCal -/

@[simp] theorem State.setCal_cfg (c : CalState) : (s.setCal c).cfg = s.cfg := rfl
@[simp] theorem State.setCal_seq (c : CalState) : (s.setCal c).seq = s.seq := rfl
@[simp] theorem State.setCal_recordDue (c : CalState) : (s.setCal c).recordDue = s.recordDue := rfl
@[simp] theorem State.setCal_status (c : CalState) : (s.setCal c).status = s.status := rfl
@[simp] theorem State.setCal_result (c : CalState) : (s.setCal c).result = s.result := rfl
@[simp] theorem State.setCal_calState (c : CalState) : (s.setCal c).calState = c.code := rfl
@[simp] theorem State.setCal_calAttempt (c : CalState) : (s.setCal c).calAttempt = s.calAttempt := rfl
@[simp] theorem State.setCal_giCache (c : CalState) : (s.setCal c).giCache = s.giCache := rfl
@[simp] theorem State.setCal_giValid (c : CalState) : (s.setCal c).giValid = s.giValid := rfl
@[simp] theorem State.setCal_smpX (c : CalState) : (s.setCal c).smpX = s.smpX := rfl
@[simp] theorem State.setCal_smpY (c : CalState) : (s.setCal c).smpY = s.smpY := rfl
@[simp] theorem State.setCal_smpOk (c : CalState) : (s.setCal c).smpOk = s.smpOk := rfl
@[simp] theorem State.setCal_smpN (c : CalState) : (s.setCal c).smpN = s.smpN := rfl
@[simp] theorem State.setCal_smpIter (c : CalState) : (s.setCal c).smpIter = s.smpIter := rfl
@[simp] theorem State.setCal_coordPolls (c : CalState) : (s.setCal c).coordPolls = s.coordPolls := rfl
@[simp] theorem State.setCal_cap (c : CalState) : (s.setCal c).cap = s.cap := rfl
@[simp] theorem State.setCal_hist (c : CalState) : (s.setCal c).hist = s.hist := rfl
@[simp] theorem State.setCal_env (c : CalState) : (s.setCal c).env = s.env := rfl
@[simp] theorem State.setCal_nextBusAnswer (c : CalState) : (s.setCal c).nextBusAnswer = s.nextBusAnswer := rfl
@[simp] theorem State.setCal_writeReply (c : CalState) : (s.setCal c).writeReply = s.writeReply := rfl
@[simp] theorem State.setCal_pinReply (c : CalState) : (s.setCal c).pinReply = s.pinReply := rfl
@[simp] theorem State.setCal_busReply (c : CalState) (n : Nat) : (s.setCal c).busReply n = s.busReply n := rfl

/-! ### calBegin -/

@[simp] theorem State.calBegin_cfg : (s.calBegin).cfg = s.cfg := rfl
@[simp] theorem State.calBegin_seq : (s.calBegin).seq = s.seq := rfl
@[simp] theorem State.calBegin_recordDue : (s.calBegin).recordDue = s.recordDue := rfl
@[simp] theorem State.calBegin_status : (s.calBegin).status = s.status := rfl
@[simp] theorem State.calBegin_result : (s.calBegin).result = s.result := rfl
@[simp] theorem State.calBegin_calState : (s.calBegin).calState = CalState.factoryModeRequested.code := rfl
@[simp] theorem State.calBegin_calAttempt : (s.calBegin).calAttempt = 0 := rfl
@[simp] theorem State.calBegin_giCache : (s.calBegin).giCache = s.giCache := rfl
@[simp] theorem State.calBegin_giValid : (s.calBegin).giValid = s.giValid := rfl
@[simp] theorem State.calBegin_smpX : (s.calBegin).smpX = s.smpX := rfl
@[simp] theorem State.calBegin_smpY : (s.calBegin).smpY = s.smpY := rfl
@[simp] theorem State.calBegin_smpOk : (s.calBegin).smpOk = s.smpOk := rfl
@[simp] theorem State.calBegin_smpN : (s.calBegin).smpN = s.smpN := rfl
@[simp] theorem State.calBegin_smpIter : (s.calBegin).smpIter = s.smpIter := rfl
@[simp] theorem State.calBegin_coordPolls : (s.calBegin).coordPolls = s.coordPolls := rfl
@[simp] theorem State.calBegin_cap : (s.calBegin).cap = s.cap := rfl
@[simp] theorem State.calBegin_hist : (s.calBegin).hist = s.hist := rfl
@[simp] theorem State.calBegin_env : (s.calBegin).env = s.env := rfl
@[simp] theorem State.calBegin_nextBusAnswer : (s.calBegin).nextBusAnswer = s.nextBusAnswer := rfl
@[simp] theorem State.calBegin_writeReply : (s.calBegin).writeReply = s.writeReply := rfl
@[simp] theorem State.calBegin_pinReply : (s.calBegin).pinReply = s.pinReply := rfl
@[simp] theorem State.calBegin_busReply (n : Nat) : (s.calBegin).busReply n = s.busReply n := rfl

/-! ### calNextPoll -/

@[simp] theorem State.calNextPoll_cfg : (s.calNextPoll).cfg = s.cfg := rfl
@[simp] theorem State.calNextPoll_seq : (s.calNextPoll).seq = s.seq := rfl
@[simp] theorem State.calNextPoll_recordDue : (s.calNextPoll).recordDue = s.recordDue := rfl
@[simp] theorem State.calNextPoll_status : (s.calNextPoll).status = s.status := rfl
@[simp] theorem State.calNextPoll_result : (s.calNextPoll).result = s.result := rfl
@[simp] theorem State.calNextPoll_calState : (s.calNextPoll).calState = CalState.polling.code := rfl
@[simp] theorem State.calNextPoll_calAttempt : (s.calNextPoll).calAttempt = s.calAttempt + 1 := rfl
@[simp] theorem State.calNextPoll_giCache : (s.calNextPoll).giCache = s.giCache := rfl
@[simp] theorem State.calNextPoll_giValid : (s.calNextPoll).giValid = s.giValid := rfl
@[simp] theorem State.calNextPoll_smpX : (s.calNextPoll).smpX = s.smpX := rfl
@[simp] theorem State.calNextPoll_smpY : (s.calNextPoll).smpY = s.smpY := rfl
@[simp] theorem State.calNextPoll_smpOk : (s.calNextPoll).smpOk = s.smpOk := rfl
@[simp] theorem State.calNextPoll_smpN : (s.calNextPoll).smpN = s.smpN := rfl
@[simp] theorem State.calNextPoll_smpIter : (s.calNextPoll).smpIter = s.smpIter := rfl
@[simp] theorem State.calNextPoll_coordPolls : (s.calNextPoll).coordPolls = s.coordPolls := rfl
@[simp] theorem State.calNextPoll_cap : (s.calNextPoll).cap = s.cap := rfl
@[simp] theorem State.calNextPoll_hist : (s.calNextPoll).hist = s.hist := rfl
@[simp] theorem State.calNextPoll_env : (s.calNextPoll).env = s.env := rfl
@[simp] theorem State.calNextPoll_nextBusAnswer : (s.calNextPoll).nextBusAnswer = s.nextBusAnswer := rfl
@[simp] theorem State.calNextPoll_writeReply : (s.calNextPoll).writeReply = s.writeReply := rfl
@[simp] theorem State.calNextPoll_pinReply : (s.calNextPoll).pinReply = s.pinReply := rfl
@[simp] theorem State.calNextPoll_busReply (n : Nat) : (s.calNextPoll).busReply n = s.busReply n := rfl

/-! ### coordEnter -/

@[simp] theorem State.coordEnter_cfg : (s.coordEnter).cfg = s.cfg := rfl
@[simp] theorem State.coordEnter_seq : (s.coordEnter).seq = s.seq := rfl
@[simp] theorem State.coordEnter_recordDue : (s.coordEnter).recordDue = false := rfl
@[simp] theorem State.coordEnter_status : (s.coordEnter).status = s.status := rfl
@[simp] theorem State.coordEnter_result : (s.coordEnter).result = s.result := rfl
@[simp] theorem State.coordEnter_calState : (s.coordEnter).calState = s.calState := rfl
@[simp] theorem State.coordEnter_calAttempt : (s.coordEnter).calAttempt = s.calAttempt := rfl
@[simp] theorem State.coordEnter_giCache : (s.coordEnter).giCache = s.giCache := rfl
@[simp] theorem State.coordEnter_giValid : (s.coordEnter).giValid = s.giValid := rfl
@[simp] theorem State.coordEnter_smpX : (s.coordEnter).smpX = s.smpX := rfl
@[simp] theorem State.coordEnter_smpY : (s.coordEnter).smpY = s.smpY := rfl
@[simp] theorem State.coordEnter_smpOk : (s.coordEnter).smpOk = s.smpOk := rfl
@[simp] theorem State.coordEnter_smpN : (s.coordEnter).smpN = s.smpN := rfl
@[simp] theorem State.coordEnter_smpIter : (s.coordEnter).smpIter = s.smpIter := rfl
@[simp] theorem State.coordEnter_coordPolls : (s.coordEnter).coordPolls = 0 := rfl
@[simp] theorem State.coordEnter_cap : (s.coordEnter).cap = s.cap := rfl
@[simp] theorem State.coordEnter_hist : (s.coordEnter).hist = s.hist := rfl
@[simp] theorem State.coordEnter_env : (s.coordEnter).env = s.env := rfl
@[simp] theorem State.coordEnter_nextBusAnswer : (s.coordEnter).nextBusAnswer = s.nextBusAnswer := rfl
@[simp] theorem State.coordEnter_writeReply : (s.coordEnter).writeReply = s.writeReply := rfl
@[simp] theorem State.coordEnter_pinReply : (s.coordEnter).pinReply = s.pinReply := rfl
@[simp] theorem State.coordEnter_busReply (n : Nat) : (s.coordEnter).busReply n = s.busReply n := rfl

/-! ### setRecordDue -/

@[simp] theorem State.setRecordDue_cfg (due : Bool) : (s.setRecordDue due).cfg = s.cfg := rfl
@[simp] theorem State.setRecordDue_seq (due : Bool) : (s.setRecordDue due).seq = s.seq := rfl
@[simp] theorem State.setRecordDue_recordDue (due : Bool) : (s.setRecordDue due).recordDue = due := rfl
@[simp] theorem State.setRecordDue_status (due : Bool) : (s.setRecordDue due).status = s.status := rfl
@[simp] theorem State.setRecordDue_result (due : Bool) : (s.setRecordDue due).result = s.result := rfl
@[simp] theorem State.setRecordDue_calState (due : Bool) : (s.setRecordDue due).calState = s.calState := rfl
@[simp] theorem State.setRecordDue_calAttempt (due : Bool) : (s.setRecordDue due).calAttempt = s.calAttempt := rfl
@[simp] theorem State.setRecordDue_giCache (due : Bool) : (s.setRecordDue due).giCache = s.giCache := rfl
@[simp] theorem State.setRecordDue_giValid (due : Bool) : (s.setRecordDue due).giValid = s.giValid := rfl
@[simp] theorem State.setRecordDue_smpX (due : Bool) : (s.setRecordDue due).smpX = s.smpX := rfl
@[simp] theorem State.setRecordDue_smpY (due : Bool) : (s.setRecordDue due).smpY = s.smpY := rfl
@[simp] theorem State.setRecordDue_smpOk (due : Bool) : (s.setRecordDue due).smpOk = s.smpOk := rfl
@[simp] theorem State.setRecordDue_smpN (due : Bool) : (s.setRecordDue due).smpN = s.smpN := rfl
@[simp] theorem State.setRecordDue_smpIter (due : Bool) : (s.setRecordDue due).smpIter = s.smpIter := rfl
@[simp] theorem State.setRecordDue_coordPolls (due : Bool) : (s.setRecordDue due).coordPolls = s.coordPolls := rfl
@[simp] theorem State.setRecordDue_cap (due : Bool) : (s.setRecordDue due).cap = s.cap := rfl
@[simp] theorem State.setRecordDue_hist (due : Bool) : (s.setRecordDue due).hist = s.hist := rfl
@[simp] theorem State.setRecordDue_env (due : Bool) : (s.setRecordDue due).env = s.env := rfl
@[simp] theorem State.setRecordDue_nextBusAnswer (due : Bool) :
    (s.setRecordDue due).nextBusAnswer = s.nextBusAnswer := rfl
@[simp] theorem State.setRecordDue_writeReply (due : Bool) : (s.setRecordDue due).writeReply = s.writeReply := rfl
@[simp] theorem State.setRecordDue_pinReply (due : Bool) : (s.setRecordDue due).pinReply = s.pinReply := rfl
@[simp] theorem State.setRecordDue_busReply (due : Bool) (n : Nat) :
    (s.setRecordDue due).busReply n = s.busReply n := rfl

/-! ### countPoll -/

@[simp] theorem State.countPoll_cfg : (s.countPoll).cfg = s.cfg := rfl
@[simp] theorem State.countPoll_seq : (s.countPoll).seq = s.seq := rfl
@[simp] theorem State.countPoll_recordDue : (s.countPoll).recordDue = s.recordDue := rfl
@[simp] theorem State.countPoll_status : (s.countPoll).status = s.status := rfl
@[simp] theorem State.countPoll_result : (s.countPoll).result = s.result := rfl
@[simp] theorem State.countPoll_calState : (s.countPoll).calState = s.calState := rfl
@[simp] theorem State.countPoll_calAttempt : (s.countPoll).calAttempt = s.calAttempt := rfl
@[simp] theorem State.countPoll_giCache : (s.countPoll).giCache = s.giCache := rfl
@[simp] theorem State.countPoll_giValid : (s.countPoll).giValid = s.giValid := rfl
@[simp] theorem State.countPoll_smpX : (s.countPoll).smpX = s.smpX := rfl
@[simp] theorem State.countPoll_smpY : (s.countPoll).smpY = s.smpY := rfl
@[simp] theorem State.countPoll_smpOk : (s.countPoll).smpOk = s.smpOk := rfl
@[simp] theorem State.countPoll_smpN : (s.countPoll).smpN = s.smpN := rfl
@[simp] theorem State.countPoll_smpIter : (s.countPoll).smpIter = s.smpIter := rfl
@[simp] theorem State.countPoll_coordPolls : (s.countPoll).coordPolls = s.coordPolls + 1 := rfl
@[simp] theorem State.countPoll_cap : (s.countPoll).cap = s.cap := rfl
@[simp] theorem State.countPoll_hist : (s.countPoll).hist = s.hist := rfl
@[simp] theorem State.countPoll_env : (s.countPoll).env = s.env := rfl
@[simp] theorem State.countPoll_nextBusAnswer : (s.countPoll).nextBusAnswer = s.nextBusAnswer := rfl
@[simp] theorem State.countPoll_writeReply : (s.countPoll).writeReply = s.writeReply := rfl
@[simp] theorem State.countPoll_pinReply : (s.countPoll).pinReply = s.pinReply := rfl
@[simp] theorem State.countPoll_busReply (n : Nat) : (s.countPoll).busReply n = s.busReply n := rfl

/-! ### clearWindow -/

@[simp] theorem State.clearWindow_cfg : (s.clearWindow).cfg = s.cfg := by unfold State.clearWindow; rfl
@[simp] theorem State.clearWindow_seq : (s.clearWindow).seq = s.seq := by unfold State.clearWindow; rfl
@[simp] theorem State.clearWindow_recordDue :
    (s.clearWindow).recordDue = s.recordDue := by unfold State.clearWindow; rfl
@[simp] theorem State.clearWindow_status : (s.clearWindow).status = s.status := by unfold State.clearWindow; rfl
@[simp] theorem State.clearWindow_result : (s.clearWindow).result = s.result := by unfold State.clearWindow; rfl
@[simp] theorem State.clearWindow_calState : (s.clearWindow).calState = s.calState := by unfold State.clearWindow; rfl
@[simp] theorem State.clearWindow_calAttempt :
    (s.clearWindow).calAttempt = s.calAttempt := by unfold State.clearWindow; rfl
@[simp] theorem State.clearWindow_giCache : (s.clearWindow).giCache = s.giCache := by unfold State.clearWindow; rfl
@[simp] theorem State.clearWindow_giValid : (s.clearWindow).giValid = s.giValid := by unfold State.clearWindow; rfl
@[simp] theorem State.clearWindow_smpX :
    (s.clearWindow).smpX = freeWindowX s.env.draws := by unfold State.clearWindow; rfl
@[simp] theorem State.clearWindow_smpY :
    (s.clearWindow).smpY = freeWindowY s.env.draws := by unfold State.clearWindow; rfl
@[simp] theorem State.clearWindow_smpOk : (s.clearWindow).smpOk = 0 := by unfold State.clearWindow; rfl
@[simp] theorem State.clearWindow_smpN : (s.clearWindow).smpN = 0 := by unfold State.clearWindow; rfl
@[simp] theorem State.clearWindow_smpIter : (s.clearWindow).smpIter = 0 := by unfold State.clearWindow; rfl
@[simp] theorem State.clearWindow_coordPolls :
    (s.clearWindow).coordPolls = s.coordPolls := by unfold State.clearWindow; rfl
@[simp] theorem State.clearWindow_cap : (s.clearWindow).cap = s.cap := by unfold State.clearWindow; rfl
@[simp] theorem State.clearWindow_hist : (s.clearWindow).hist = s.hist := by unfold State.clearWindow; rfl
@[simp] theorem State.clearWindow_env : (s.clearWindow).env = s.env := by unfold State.clearWindow; rfl
@[simp] theorem State.clearWindow_nextBusAnswer :
    (s.clearWindow).nextBusAnswer = s.nextBusAnswer := by simp [State.nextBusAnswer]
@[simp] theorem State.clearWindow_writeReply : (s.clearWindow).writeReply = s.writeReply := by simp [State.writeReply]
@[simp] theorem State.clearWindow_pinReply : (s.clearWindow).pinReply = s.pinReply := by simp [State.pinReply]
@[simp] theorem State.clearWindow_busReply (n : Nat) :
    (s.clearWindow).busReply n = s.busReply n := by simp [State.busReply]

/-! ### startIteration -/

@[simp] theorem State.startIteration_cfg : (s.startIteration).cfg = s.cfg := rfl
@[simp] theorem State.startIteration_seq : (s.startIteration).seq = s.seq := rfl
@[simp] theorem State.startIteration_recordDue : (s.startIteration).recordDue = false := rfl
@[simp] theorem State.startIteration_status : (s.startIteration).status = s.status := rfl
@[simp] theorem State.startIteration_result : (s.startIteration).result = s.result := rfl
@[simp] theorem State.startIteration_calState : (s.startIteration).calState = s.calState := rfl
@[simp] theorem State.startIteration_calAttempt : (s.startIteration).calAttempt = s.calAttempt := rfl
@[simp] theorem State.startIteration_giCache : (s.startIteration).giCache = s.giCache := rfl
@[simp] theorem State.startIteration_giValid : (s.startIteration).giValid = s.giValid := rfl
@[simp] theorem State.startIteration_smpX : (s.startIteration).smpX = s.smpX := rfl
@[simp] theorem State.startIteration_smpY : (s.startIteration).smpY = s.smpY := rfl
@[simp] theorem State.startIteration_smpOk : (s.startIteration).smpOk = s.smpOk := rfl
@[simp] theorem State.startIteration_smpN : (s.startIteration).smpN = s.smpN := rfl
@[simp] theorem State.startIteration_smpIter : (s.startIteration).smpIter = s.smpIter + 1 := rfl
@[simp] theorem State.startIteration_coordPolls : (s.startIteration).coordPolls = 0 := rfl
@[simp] theorem State.startIteration_cap : (s.startIteration).cap = s.cap := rfl
@[simp] theorem State.startIteration_hist : (s.startIteration).hist = s.hist := rfl
@[simp] theorem State.startIteration_env : (s.startIteration).env = s.env := rfl
@[simp] theorem State.startIteration_nextBusAnswer : (s.startIteration).nextBusAnswer = s.nextBusAnswer := rfl
@[simp] theorem State.startIteration_writeReply : (s.startIteration).writeReply = s.writeReply := rfl
@[simp] theorem State.startIteration_pinReply : (s.startIteration).pinReply = s.pinReply := rfl
@[simp] theorem State.startIteration_busReply (n : Nat) : (s.startIteration).busReply n = s.busReply n := rfl

/-! ### gestureEnter -/

@[simp] theorem State.gestureEnter_cfg : (s.gestureEnter).cfg = s.cfg := by simp [State.gestureEnter]
@[simp] theorem State.gestureEnter_seq : (s.gestureEnter).seq = s.seq := by simp [State.gestureEnter]
@[simp] theorem State.gestureEnter_recordDue : (s.gestureEnter).recordDue = false := by simp [State.gestureEnter]
@[simp] theorem State.gestureEnter_status : (s.gestureEnter).status = s.status := by simp [State.gestureEnter]
@[simp] theorem State.gestureEnter_result : (s.gestureEnter).result = s.result := by simp [State.gestureEnter]
@[simp] theorem State.gestureEnter_calState : (s.gestureEnter).calState = s.calState := by simp [State.gestureEnter]
@[simp] theorem State.gestureEnter_calAttempt :
    (s.gestureEnter).calAttempt = s.calAttempt := by simp [State.gestureEnter]
@[simp] theorem State.gestureEnter_giCache : (s.gestureEnter).giCache = s.giCache := by simp [State.gestureEnter]
@[simp] theorem State.gestureEnter_giValid : (s.gestureEnter).giValid = s.giValid := by simp [State.gestureEnter]
@[simp] theorem State.gestureEnter_smpX :
    (s.gestureEnter).smpX = freeWindowX s.env.draws := by simp [State.gestureEnter]
@[simp] theorem State.gestureEnter_smpY :
    (s.gestureEnter).smpY = freeWindowY s.env.draws := by simp [State.gestureEnter]
@[simp] theorem State.gestureEnter_smpOk : (s.gestureEnter).smpOk = 0 := by simp [State.gestureEnter]
@[simp] theorem State.gestureEnter_smpN : (s.gestureEnter).smpN = 0 := by simp [State.gestureEnter]
@[simp] theorem State.gestureEnter_smpIter : (s.gestureEnter).smpIter = 1 := by simp [State.gestureEnter]
@[simp] theorem State.gestureEnter_coordPolls : (s.gestureEnter).coordPolls = 0 := by simp [State.gestureEnter]
@[simp] theorem State.gestureEnter_cap : (s.gestureEnter).cap = s.cap := by simp [State.gestureEnter]
@[simp] theorem State.gestureEnter_hist : (s.gestureEnter).hist = s.hist := by simp [State.gestureEnter]
@[simp] theorem State.gestureEnter_env : (s.gestureEnter).env = s.env := by simp [State.gestureEnter]
@[simp] theorem State.gestureEnter_nextBusAnswer :
    (s.gestureEnter).nextBusAnswer = s.nextBusAnswer := by simp [State.gestureEnter]
@[simp] theorem State.gestureEnter_writeReply :
    (s.gestureEnter).writeReply = s.writeReply := by simp [State.gestureEnter]
@[simp] theorem State.gestureEnter_pinReply : (s.gestureEnter).pinReply = s.pinReply := by simp [State.gestureEnter]
@[simp] theorem State.gestureEnter_busReply (n : Nat) :
    (s.gestureEnter).busReply n = s.busReply n := by simp [State.gestureEnter]

/-! ### putSample -/

@[simp] theorem State.putSample_cfg (i : Nat) (x y : Coord) : (s.putSample i x y).cfg = s.cfg := rfl
@[simp] theorem State.putSample_seq (i : Nat) (x y : Coord) : (s.putSample i x y).seq = s.seq := rfl
@[simp] theorem State.putSample_recordDue (i : Nat) (x y : Coord) : (s.putSample i x y).recordDue = s.recordDue := rfl
@[simp] theorem State.putSample_status (i : Nat) (x y : Coord) : (s.putSample i x y).status = s.status := rfl
@[simp] theorem State.putSample_result (i : Nat) (x y : Coord) : (s.putSample i x y).result = s.result := rfl
@[simp] theorem State.putSample_calState (i : Nat) (x y : Coord) : (s.putSample i x y).calState = s.calState := rfl
@[simp] theorem State.putSample_calAttempt (i : Nat) (x y : Coord) :
    (s.putSample i x y).calAttempt = s.calAttempt := rfl
@[simp] theorem State.putSample_giCache (i : Nat) (x y : Coord) : (s.putSample i x y).giCache = s.giCache := rfl
@[simp] theorem State.putSample_giValid (i : Nat) (x y : Coord) : (s.putSample i x y).giValid = s.giValid := rfl
@[simp] theorem State.putSample_smpX (i : Nat) (x y : Coord) :
    (s.putSample i x y).smpX = s.smpX.setIfInBounds (s.sampleEntry i) x := rfl
@[simp] theorem State.putSample_smpY (i : Nat) (x y : Coord) :
    (s.putSample i x y).smpY = s.smpY.setIfInBounds (s.sampleEntry i) y := rfl
@[simp] theorem State.putSample_smpOk (i : Nat) (x y : Coord) :
    (s.putSample i x y).smpOk = s.smpOk ||| (1#19 <<< i) := rfl
@[simp] theorem State.putSample_smpN (i : Nat) (x y : Coord) : (s.putSample i x y).smpN = s.smpN + 1 := rfl
@[simp] theorem State.putSample_smpIter (i : Nat) (x y : Coord) : (s.putSample i x y).smpIter = s.smpIter := rfl
@[simp] theorem State.putSample_coordPolls (i : Nat) (x y : Coord) :
    (s.putSample i x y).coordPolls = s.coordPolls := rfl
@[simp] theorem State.putSample_cap (i : Nat) (x y : Coord) : (s.putSample i x y).cap = s.cap := rfl
@[simp] theorem State.putSample_hist (i : Nat) (x y : Coord) : (s.putSample i x y).hist = s.hist := rfl
@[simp] theorem State.putSample_env (i : Nat) (x y : Coord) : (s.putSample i x y).env = s.env := rfl
@[simp] theorem State.putSample_nextBusAnswer (i : Nat) (x y : Coord) :
    (s.putSample i x y).nextBusAnswer = s.nextBusAnswer := rfl
@[simp] theorem State.putSample_writeReply (i : Nat) (x y : Coord) :
    (s.putSample i x y).writeReply = s.writeReply := rfl
@[simp] theorem State.putSample_pinReply (i : Nat) (x y : Coord) : (s.putSample i x y).pinReply = s.pinReply := rfl
@[simp] theorem State.putSample_busReply (i : Nat) (x y : Coord) (n : Nat) :
    (s.putSample i x y).busReply n = s.busReply n := rfl

/-! ### loadGi -/

@[simp] theorem State.loadGi_cfg (b : Vector Byte 6) : (s.loadGi b).cfg = s.cfg := rfl
@[simp] theorem State.loadGi_seq (b : Vector Byte 6) : (s.loadGi b).seq = s.seq := rfl
@[simp] theorem State.loadGi_recordDue (b : Vector Byte 6) : (s.loadGi b).recordDue = s.recordDue := rfl
@[simp] theorem State.loadGi_status (b : Vector Byte 6) : (s.loadGi b).status = s.status := rfl
@[simp] theorem State.loadGi_result (b : Vector Byte 6) : (s.loadGi b).result = s.result := rfl
@[simp] theorem State.loadGi_calState (b : Vector Byte 6) : (s.loadGi b).calState = s.calState := rfl
@[simp] theorem State.loadGi_calAttempt (b : Vector Byte 6) : (s.loadGi b).calAttempt = s.calAttempt := rfl
@[simp] theorem State.loadGi_giCache (b : Vector Byte 6) : (s.loadGi b).giCache = b := rfl
@[simp] theorem State.loadGi_giValid (b : Vector Byte 6) : (s.loadGi b).giValid = true := rfl
@[simp] theorem State.loadGi_smpX (b : Vector Byte 6) : (s.loadGi b).smpX = s.smpX := rfl
@[simp] theorem State.loadGi_smpY (b : Vector Byte 6) : (s.loadGi b).smpY = s.smpY := rfl
@[simp] theorem State.loadGi_smpOk (b : Vector Byte 6) : (s.loadGi b).smpOk = s.smpOk := rfl
@[simp] theorem State.loadGi_smpN (b : Vector Byte 6) : (s.loadGi b).smpN = s.smpN := rfl
@[simp] theorem State.loadGi_smpIter (b : Vector Byte 6) : (s.loadGi b).smpIter = s.smpIter := rfl
@[simp] theorem State.loadGi_coordPolls (b : Vector Byte 6) : (s.loadGi b).coordPolls = s.coordPolls := rfl
@[simp] theorem State.loadGi_cap (b : Vector Byte 6) : (s.loadGi b).cap = s.cap := rfl
@[simp] theorem State.loadGi_hist (b : Vector Byte 6) : (s.loadGi b).hist = s.hist := rfl
@[simp] theorem State.loadGi_env (b : Vector Byte 6) : (s.loadGi b).env = s.env := rfl
@[simp] theorem State.loadGi_nextBusAnswer (b : Vector Byte 6) : (s.loadGi b).nextBusAnswer = s.nextBusAnswer := rfl
@[simp] theorem State.loadGi_writeReply (b : Vector Byte 6) : (s.loadGi b).writeReply = s.writeReply := rfl
@[simp] theorem State.loadGi_pinReply (b : Vector Byte 6) : (s.loadGi b).pinReply = s.pinReply := rfl
@[simp] theorem State.loadGi_busReply (b : Vector Byte 6) (n : Nat) : (s.loadGi b).busReply n = s.busReply n := rfl

/-! ### busDone -/

@[simp] theorem State.busDone_cfg (e : Event) : (s.busDone e).cfg = s.cfg := rfl
@[simp] theorem State.busDone_seq (e : Event) : (s.busDone e).seq = s.seq := rfl
@[simp] theorem State.busDone_recordDue (e : Event) : (s.busDone e).recordDue = s.recordDue := rfl
@[simp] theorem State.busDone_status (e : Event) : (s.busDone e).status = s.status := rfl
@[simp] theorem State.busDone_result (e : Event) : (s.busDone e).result = s.result := rfl
@[simp] theorem State.busDone_calState (e : Event) : (s.busDone e).calState = s.calState := rfl
@[simp] theorem State.busDone_calAttempt (e : Event) : (s.busDone e).calAttempt = s.calAttempt := rfl
@[simp] theorem State.busDone_giCache (e : Event) : (s.busDone e).giCache = s.giCache := rfl
@[simp] theorem State.busDone_giValid (e : Event) : (s.busDone e).giValid = s.giValid := rfl
@[simp] theorem State.busDone_smpX (e : Event) : (s.busDone e).smpX = s.smpX := rfl
@[simp] theorem State.busDone_smpY (e : Event) : (s.busDone e).smpY = s.smpY := rfl
@[simp] theorem State.busDone_smpOk (e : Event) : (s.busDone e).smpOk = s.smpOk := rfl
@[simp] theorem State.busDone_smpN (e : Event) : (s.busDone e).smpN = s.smpN := rfl
@[simp] theorem State.busDone_smpIter (e : Event) : (s.busDone e).smpIter = s.smpIter := rfl
@[simp] theorem State.busDone_coordPolls (e : Event) : (s.busDone e).coordPolls = s.coordPolls := rfl
@[simp] theorem State.busDone_cap (e : Event) : (s.busDone e).cap = s.cap := rfl
@[simp] theorem State.busDone_hist (e : Event) : (s.busDone e).hist = s.hist ++ [e] := rfl
@[simp] theorem State.busDone_env (e : Event) : (s.busDone e).env = s.env.afterBus := rfl

/-! ### wordTaken -/

@[simp] theorem State.wordTaken_cfg : (s.wordTaken).cfg = s.cfg := rfl
@[simp] theorem State.wordTaken_seq : (s.wordTaken).seq = s.seq := rfl
@[simp] theorem State.wordTaken_recordDue : (s.wordTaken).recordDue = s.recordDue := rfl
@[simp] theorem State.wordTaken_status : (s.wordTaken).status = s.status := rfl
@[simp] theorem State.wordTaken_result : (s.wordTaken).result = s.result := rfl
@[simp] theorem State.wordTaken_calState : (s.wordTaken).calState = s.calState := rfl
@[simp] theorem State.wordTaken_calAttempt : (s.wordTaken).calAttempt = s.calAttempt := rfl
@[simp] theorem State.wordTaken_giCache : (s.wordTaken).giCache = s.giCache := rfl
@[simp] theorem State.wordTaken_giValid : (s.wordTaken).giValid = s.giValid := rfl
@[simp] theorem State.wordTaken_smpX : (s.wordTaken).smpX = s.smpX := rfl
@[simp] theorem State.wordTaken_smpY : (s.wordTaken).smpY = s.smpY := rfl
@[simp] theorem State.wordTaken_smpOk : (s.wordTaken).smpOk = s.smpOk := rfl
@[simp] theorem State.wordTaken_smpN : (s.wordTaken).smpN = s.smpN := rfl
@[simp] theorem State.wordTaken_smpIter : (s.wordTaken).smpIter = s.smpIter := rfl
@[simp] theorem State.wordTaken_coordPolls : (s.wordTaken).coordPolls = s.coordPolls := rfl
@[simp] theorem State.wordTaken_cap : (s.wordTaken).cap = s.cap := rfl
@[simp] theorem State.wordTaken_hist : (s.wordTaken).hist = s.hist := rfl
@[simp] theorem State.wordTaken_env : (s.wordTaken).env = { s.env with words := s.env.words.tail } := rfl

/-! ### withHist -/

@[simp] theorem State.withHist_cfg (h : List Event) : (s.withHist h).cfg = s.cfg := rfl
@[simp] theorem State.withHist_seq (h : List Event) : (s.withHist h).seq = s.seq := rfl
@[simp] theorem State.withHist_recordDue (h : List Event) : (s.withHist h).recordDue = s.recordDue := rfl
@[simp] theorem State.withHist_status (h : List Event) : (s.withHist h).status = s.status := rfl
@[simp] theorem State.withHist_result (h : List Event) : (s.withHist h).result = s.result := rfl
@[simp] theorem State.withHist_calState (h : List Event) : (s.withHist h).calState = s.calState := rfl
@[simp] theorem State.withHist_calAttempt (h : List Event) : (s.withHist h).calAttempt = s.calAttempt := rfl
@[simp] theorem State.withHist_giCache (h : List Event) : (s.withHist h).giCache = s.giCache := rfl
@[simp] theorem State.withHist_giValid (h : List Event) : (s.withHist h).giValid = s.giValid := rfl
@[simp] theorem State.withHist_smpX (h : List Event) : (s.withHist h).smpX = s.smpX := rfl
@[simp] theorem State.withHist_smpY (h : List Event) : (s.withHist h).smpY = s.smpY := rfl
@[simp] theorem State.withHist_smpOk (h : List Event) : (s.withHist h).smpOk = s.smpOk := rfl
@[simp] theorem State.withHist_smpN (h : List Event) : (s.withHist h).smpN = s.smpN := rfl
@[simp] theorem State.withHist_smpIter (h : List Event) : (s.withHist h).smpIter = s.smpIter := rfl
@[simp] theorem State.withHist_coordPolls (h : List Event) : (s.withHist h).coordPolls = s.coordPolls := rfl
@[simp] theorem State.withHist_cap (h : List Event) : (s.withHist h).cap = s.cap := rfl
@[simp] theorem State.withHist_hist (h : List Event) : (s.withHist h).hist = h := rfl
@[simp] theorem State.withHist_env (h : List Event) : (s.withHist h).env = s.env := rfl
@[simp] theorem State.withHist_nextBusAnswer (h : List Event) : (s.withHist h).nextBusAnswer = s.nextBusAnswer := rfl
@[simp] theorem State.withHist_writeReply (h : List Event) : (s.withHist h).writeReply = s.writeReply := rfl
@[simp] theorem State.withHist_pinReply (h : List Event) : (s.withHist h).pinReply = s.pinReply := rfl
@[simp] theorem State.withHist_busReply (h : List Event) (n : Nat) : (s.withHist h).busReply n = s.busReply n := rfl

/-! ### endedWith -/

@[simp] theorem State.endedWith_cfg (evs : List Event) (st : Byte) (p : Payload) :
    (s.endedWith evs st p).cfg = s.cfg := rfl
@[simp] theorem State.endedWith_seq (evs : List Event) (st : Byte) (p : Payload) :
    (s.endedWith evs st p).seq = .idle := rfl
@[simp] theorem State.endedWith_recordDue (evs : List Event) (st : Byte) (p : Payload) :
    (s.endedWith evs st p).recordDue = s.recordDue := rfl
@[simp] theorem State.endedWith_status (evs : List Event) (st : Byte) (p : Payload) :
    (s.endedWith evs st p).status = st := rfl
@[simp] theorem State.endedWith_result (evs : List Event) (st : Byte) (p : Payload) :
    (s.endedWith evs st p).result = p := rfl
@[simp] theorem State.endedWith_calState (evs : List Event) (st : Byte) (p : Payload) :
    (s.endedWith evs st p).calState = s.calState := rfl
@[simp] theorem State.endedWith_calAttempt (evs : List Event) (st : Byte) (p : Payload) :
    (s.endedWith evs st p).calAttempt = s.calAttempt := rfl
@[simp] theorem State.endedWith_giCache (evs : List Event) (st : Byte) (p : Payload) :
    (s.endedWith evs st p).giCache = s.giCache := rfl
@[simp] theorem State.endedWith_giValid (evs : List Event) (st : Byte) (p : Payload) :
    (s.endedWith evs st p).giValid = s.giValid := rfl
@[simp] theorem State.endedWith_smpX (evs : List Event) (st : Byte) (p : Payload) :
    (s.endedWith evs st p).smpX = s.smpX := rfl
@[simp] theorem State.endedWith_smpY (evs : List Event) (st : Byte) (p : Payload) :
    (s.endedWith evs st p).smpY = s.smpY := rfl
@[simp] theorem State.endedWith_smpOk (evs : List Event) (st : Byte) (p : Payload) :
    (s.endedWith evs st p).smpOk = s.smpOk := rfl
@[simp] theorem State.endedWith_smpN (evs : List Event) (st : Byte) (p : Payload) :
    (s.endedWith evs st p).smpN = s.smpN := rfl
@[simp] theorem State.endedWith_smpIter (evs : List Event) (st : Byte) (p : Payload) :
    (s.endedWith evs st p).smpIter = s.smpIter := rfl
@[simp] theorem State.endedWith_coordPolls (evs : List Event) (st : Byte) (p : Payload) :
    (s.endedWith evs st p).coordPolls = s.coordPolls := rfl
@[simp] theorem State.endedWith_cap (evs : List Event) (st : Byte) (p : Payload) :
    (s.endedWith evs st p).cap = s.cap := rfl
@[simp] theorem State.endedWith_hist (evs : List Event) (st : Byte) (p : Payload) :
    (s.endedWith evs st p).hist = s.hist ++ evs ++ [.commandEnd st] := rfl
@[simp] theorem State.endedWith_env (evs : List Event) (st : Byte) (p : Payload) :
    (s.endedWith evs st p).env = s.env := rfl
@[simp] theorem State.endedWith_nextBusAnswer (evs : List Event) (st : Byte) (p : Payload) :
    (s.endedWith evs st p).nextBusAnswer = s.nextBusAnswer := rfl
@[simp] theorem State.endedWith_writeReply (evs : List Event) (st : Byte) (p : Payload) :
    (s.endedWith evs st p).writeReply = s.writeReply := rfl
@[simp] theorem State.endedWith_pinReply (evs : List Event) (st : Byte) (p : Payload) :
    (s.endedWith evs st p).pinReply = s.pinReply := rfl
@[simp] theorem State.endedWith_busReply (evs : List Event) (st : Byte) (p : Payload) (n : Nat) :
    (s.endedWith evs st p).busReply n = s.busReply n := rfl

/-! ### The world after a transaction -/

@[simp] theorem Env.afterBus_words (e : Env) : e.afterBus.words = e.words := rfl
@[simp] theorem Env.afterBus_busScript (e : Env) : e.afterBus.busScript = e.busScript.tail := rfl
@[simp] theorem Env.afterBus_busTail (e : Env) : e.afterBus.busTail = e.busTail := rfl
@[simp] theorem Env.afterBus_pinScript (e : Env) : e.afterBus.pinScript = e.pinScript := rfl
@[simp] theorem Env.afterBus_draws (e : Env) : e.afterBus.draws = e.draws + 1 := rfl

end Sys2Proof.Machine
end

