-- ==== Sys2Proof/Laws/Ops.lean ====
section
/-! SUPPORT. Sys2Proof/Laws/Ops.lean: for each shared operation, what it can do, said once. -/

namespace Sys2Proof.Machine

/-! ## Drawn bytes and bus answers -/

/-- An answer of the right length is delivered as it stands. -/
theorem drawBytes_toList (bytes : Vector Byte n) (draw : Nat) : drawBytes bytes.toList draw n = bytes := by
  ext i hi
  simp [drawBytes]

@[simp] theorem drawBytes_one (b : Byte) (draw : Nat) : drawBytes [b] draw 1 = #v[b] :=
  drawBytes_toList #v[b] draw

/-- The reply to a read is the oracle's answer: its bytes, or its failure. -/
theorem State.busReply_cases (s : State) (n : Nat) :
    (∃ given, s.nextBusAnswer = .ok given ∧ s.busReply n = .ok (drawBytes given s.env.draws n) ∧ s.writeReply = .ok) ∨
    (∃ d, s.nextBusAnswer = .err d ∧ s.busReply n = .err d ∧ s.writeReply = .err d) := by
  unfold State.busReply State.writeReply
  cases s.nextBusAnswer <;> simp

/-- A scripted answer of exactly the bytes asked for. -/
theorem State.busReply_script_ok {s : State} {n : Nat} {bytes : Vector Byte n} {rest : List BusAnswer}
    (h : s.env.busScript = .ok bytes.toList :: rest) : s.busReply n = .ok bytes := by
  simp [State.busReply, State.nextBusAnswer, h, drawBytes_toList]

/-- A scripted answer of one byte. -/
theorem State.busReply_script_byte {s : State} {b : Byte} {rest : List BusAnswer}
    (h : s.env.busScript = .ok [b] :: rest) : s.busReply 1 = .ok #v[b] := by
  simp [State.busReply, State.nextBusAnswer, h]

/-- A scripted failure. -/
theorem State.busReply_script_err {s : State} {d : BusErrDetail} {rest : List BusAnswer} (n : Nat)
    (h : s.env.busScript = .err d :: rest) : s.busReply n = .err d := by
  simp [State.busReply, State.nextBusAnswer, h]

/-- A scripted success of a write. -/
theorem State.writeReply_script_ok {s : State} {given : List Byte} {rest : List BusAnswer}
    (h : s.env.busScript = .ok given :: rest) : s.writeReply = .ok := by
  simp [State.writeReply, State.nextBusAnswer, h]

/-- A reply's outcome carries as many bytes as were asked for. -/
theorem BusReply.outcome_ok_length {n : Nat} {r : BusReply n} {bytes : List Byte} (h : r.outcome = .ok bytes) :
    bytes.length = n := by
  cases r <;> simp_all [BusReply.outcome]
  subst h; simp

/-! ## The two kinds of bus primitive and the pin primitive -/

/-- What a read primitive can do: go on with the bytes, or end the command with the transport's detail. -/
theorem State.readThen_cases (s : State) (a : Byte) (n : Nat) (rest : Vector Byte n → State → State) :
    (∃ b, s.busReply n = .ok b ∧ s.readThen a n rest = rest b (s.afterRead a n)) ∨
    (∃ d, s.busReply n = .err d ∧ s.readThen a n rest = (s.afterRead a n).raise (.busError d)) := by
  unfold State.readThen
  cases s.busReply n <;> simp

/-- What a write primitive can do. -/
theorem State.writeThen_cases (s : State) (a : Byte) (data : List Byte) (rest : State → State) :
    (s.writeReply = .ok ∧ s.writeThen a data rest = rest (s.afterWrite a data)) ∨
    (∃ d, s.writeReply = .err d ∧ s.writeThen a data rest = (s.afterWrite a data).raise (.busError d)) := by
  unfold State.writeThen
  cases s.writeReply <;> simp

/-- What a pin primitive can do. -/
theorem State.pinThen_cases (s : State) (l : Level) (rest : State → State) :
    (s.pinReply = .ok ∧ s.pinThen l rest = rest (s.afterPin l)) ∨
    (s.pinReply = .err ∧ s.pinThen l rest = (s.afterPin l).raise .pinError) := by
  unfold State.pinThen
  cases s.pinReply <;> simp

/-- A transaction that reads leaves one event, which holds its reply. -/
theorem State.afterRead_eq_busDone {s : State} {a : Byte} {n : Nat} {r : BusReply n} (h : s.busReply n = r) :
    s.afterRead a n = s.busDone (.busWriteRead s.cfg.devAddr [a] n r.outcome) := by
  subst h; rfl

/-- A transaction that writes leaves one event, which holds its reply. -/
theorem State.afterWrite_eq_busDone {s : State} {a : Byte} {data : List Byte} {r : WriteOutcome}
    (h : s.writeReply = r) : s.afterWrite a data = s.busDone (.busWrite s.cfg.devAddr (a :: data) r) := by
  subst h; rfl

/-- Ending a command is `endedWith` and no further event. -/
theorem State.endCommand_eq_endedWith (s : State) (st : Status) (p : Payload) :
    s.endCommand st p = s.endedWith [] st.code p := by
  simp [State.endCommand, State.endedWith]

theorem State.ret_eq_endedWith (s : State) (p : Payload) : s.ret p = s.endedWith [] 0x00 p :=
  s.endCommand_eq_endedWith .ok p

theorem State.raise_eq_endedWith (s : State) (e : CmdError) : s.raise e = s.endedWith [] e.status.code e.info :=
  s.endCommand_eq_endedWith e.status e.info

/-! ## The sequencer -/

@[simp] theorem State.inOneStep_idle {s : State} {body : State → State} (h : s.seq = .idle) :
    s.inOneStep body = .next (body s) := by
  simp [State.inOneStep, h]

/-- A command of at most one transfer answers a next state only from Idle. -/
theorem State.inOneStep_next {s t : State} {body : State → State} (h : s.inOneStep body = .next t) :
    s.seq = .idle ∧ body s = t := by
  unfold State.inOneStep at h
  split at h <;> simp_all

@[simp] theorem State.inSteps_idle {s : State} {c : Instr} {start : State → State} {resume : Nat → State → State}
    (h : s.seq = .idle) : s.inSteps c start resume = .next (start s) := by
  simp [State.inSteps, h]

@[simp] theorem State.inSteps_busy {s : State} {c : Instr} {k : Nat} {start : State → State}
    {resume : Nat → State → State} (h : s.seq = .busy c k) : s.inSteps c start resume = .next (resume k s) := by
  simp [State.inSteps, h]

/-- A command of several transfers answers a next state only from Idle or while it runs. -/
theorem State.inSteps_next {s t : State} {c : Instr} {start : State → State} {resume : Nat → State → State}
    (h : s.inSteps c start resume = .next t) :
    (s.seq = .idle ∧ start s = t) ∨ (∃ k, s.seq = .busy c k ∧ resume k s = t) := by
  unfold State.inSteps at h
  split at h
  · simp_all
  · split at h <;> simp_all

/-! ## The step and runs of it -/

theorem step_busy {s : State} {c : Instr} {k : Nat} (h : s.seq = .busy c k) : step s = exec c s := by
  simp [step, h]

theorem step_waits {s : State} (h : s.seq = .idle) (hw : s.env.words = []) : step s = .next s := by
  simp [step, h, State.fetch, hw]

theorem step_word {s : State} {w : List Byte} {ws : List (List Byte)} (h : s.seq = .idle)
    (hw : s.env.words = w :: ws) :
    step s = match decode w with
      | .ok i => exec i s.wordTaken
      | .error _ => .next (s.wordTaken.raise .illegalCommand) := by
  cases hd : decode w <;> simp [step, h, State.fetch, hw, hd, State.rejectWord, State.wordTaken]

/-- What a step can do: wait, reject a word, or run one step of a command. -/
theorem step_cases (s : State) :
    (s.seq = .idle ∧ s.env.words = [] ∧ step s = .next s) ∨
    (∃ w ws e, s.seq = .idle ∧ s.env.words = w :: ws ∧ decode w = .error e ∧
      step s = .next (s.wordTaken.raise .illegalCommand)) ∨
    (∃ w ws i, s.seq = .idle ∧ s.env.words = w :: ws ∧ decode w = .ok i ∧ step s = exec i s.wordTaken) ∨
    (∃ c k, s.seq = .busy c k ∧ step s = exec c s) := by
  cases h : s.seq with
  | busy c k => exact .inr (.inr (.inr ⟨c, k, rfl, step_busy h⟩))
  | idle =>
    cases hw : s.env.words with
    | nil => exact .inl ⟨rfl, rfl, step_waits h hw⟩
    | cons w ws =>
      have hs := step_word h hw
      cases hd : decode w with
      | error e => exact .inr (.inl ⟨w, ws, e, rfl, rfl, hd, by simpa [hd] using hs⟩)
      | ok i => exact .inr (.inr (.inl ⟨w, ws, i, rfl, rfl, hd, by simpa [hd] using hs⟩))

@[simp] theorem runSteps_zero (s : State) : runSteps 0 s = .next s := rfl

theorem runSteps_succ {s t : State} {n : Nat} (h : step s = .next t) : runSteps (n + 1) s = runSteps n t := by
  simp [runSteps, h]

/-- A run in two parts. -/
theorem runSteps_add {s t : State} {m : Nat} (n : Nat) (h : runSteps m s = .next t) :
    runSteps (m + n) s = runSteps n t := by
  induction m generalizing s with
  | zero => simp_all
  | succ m ih =>
    rw [Nat.add_right_comm]
    unfold runSteps at h
    split at h
    next u hu => rw [runSteps_succ hu]; exact ih h
    · simp at h
    · simp at h

/-- `runSteps` is the host's run of the machine. -/
theorem core_run_eq_runSteps (n : Nat) (s : State) : Sys2Proof.core.run n s = runSteps n s := by
  induction n generalizing s with
  | zero => rfl
  | succ n ih =>
    refine (Host.Core.run.eq_2 Sys2Proof.core s n).trans ?_
    have h : Sys2Proof.core.step s = step s := rfl
    rw [h]
    cases hs : step s with
    | next t => exact (ih t).trans (runSteps_succ hs).symm
    | fault r => simp [runSteps, hs]; rfl
    | refused r => simp [runSteps, hs]; rfl

/-! ## Histories -/

@[simp] theorem transfersSinceEnd_nil : transfersSinceEnd [] = 0 := rfl

@[simp] theorem transfersSinceEnd_append_end (h : List Event) (st : Byte) :
    transfersSinceEnd (h ++ [.commandEnd st]) = 0 := by
  simp [transfersSinceEnd]

/-- A transfer appended to the history counts one. -/
theorem transfersSinceEnd_append_transfer {h : List Event} {e : Event} (he : e.isTransfer = true) :
    transfersSinceEnd (h ++ [e]) = transfersSinceEnd h + 1 := by
  cases e <;> simp_all [transfersSinceEnd, Event.isTransfer]

@[simp] theorem transfersSinceEnd_append_discard (h : List Event) (i : Nat) :
    transfersSinceEnd (h ++ [.sampleDiscarded i]) = transfersSinceEnd h := by
  simp [transfersSinceEnd, Event.isTransfer]

/-! ## The body of GET_COORDINATES -/

/-- What one transfer of the body can do, with the state it leaves. -/
theorem State.coordTransfer_cases (s : State) :
    (∃ r, s.recordDue = true ∧ s.busReply 6 = .ok r ∧
      s.coordTransfer = (.sample (decodeTouch r).x (decodeTouch r).y,
        (s.afterRead regTouch1 6).setRecordDue false)) ∨
    (∃ d, s.recordDue = true ∧ s.busReply 6 = .err d ∧
      s.coordTransfer = (.failed (.busError d), (s.afterRead regTouch1 6).setRecordDue false)) ∨
    (∃ d, s.recordDue = false ∧ s.busReply 1 = .err d ∧
      s.coordTransfer = (.failed (.busError d), s.afterRead regTouchStatus 1)) ∨
    (∃ b, s.recordDue = false ∧ s.busReply 1 = .ok b ∧ clampCount s.cfg b[0] ≠ 0 ∧
      s.coordTransfer = (.more, (s.afterRead regTouchStatus 1).countPoll.setRecordDue true)) ∨
    (∃ b n, s.recordDue = false ∧ s.busReply 1 = .ok b ∧ clampCount s.cfg b[0] = 0 ∧
      s.cfg.coordPollBudget = some n ∧ s.coordPolls + 1 = n.val ∧
      s.coordTransfer = (.failed .pollBudgetExhausted, (s.afterRead regTouchStatus 1).countPoll)) ∨
    (∃ b, s.recordDue = false ∧ s.busReply 1 = .ok b ∧ clampCount s.cfg b[0] = 0 ∧
      (∀ n, s.cfg.coordPollBudget = some n → s.coordPolls + 1 ≠ n.val) ∧
      s.coordTransfer = (.more, (s.afterRead regTouchStatus 1).countPoll)) := by
  cases hr : s.recordDue with
  | true =>
    cases h6 : s.busReply 6 with
    | ok r => exact .inl ⟨r, by simp [State.coordTransfer, State.coordRecord, hr, h6]⟩
    | err d => exact .inr (.inl ⟨d, by simp [State.coordTransfer, State.coordRecord, hr, h6]⟩)
  | false =>
    cases h1 : s.busReply 1 with
    | err d => exact .inr (.inr (.inl ⟨d, by simp [State.coordTransfer, State.coordCount, hr, h1]⟩))
    | ok b =>
      by_cases hc : clampCount s.cfg b[0] = 0
      · cases hb : s.cfg.coordPollBudget with
        | none =>
          exact .inr (.inr (.inr (.inr (.inr ⟨b, by
            simp [State.coordTransfer, State.coordCount, State.budgetSpent, hr, h1, hc, hb]⟩))))
        | some n =>
          by_cases hn : s.coordPolls + 1 = n.val
          · exact .inr (.inr (.inr (.inr (.inl ⟨b, n, by
              simp [State.coordTransfer, State.coordCount, State.budgetSpent, hr, h1, hc, hb, hn]⟩))))
          · exact .inr (.inr (.inr (.inr (.inr ⟨b, by
              simp [State.coordTransfer, State.coordCount, State.budgetSpent, hr, h1, hc, hb, hn]⟩))))
      · exact .inr (.inr (.inr (.inl ⟨b, by simp [State.coordTransfer, State.coordCount, hr, h1, hc]⟩)))

end Sys2Proof.Machine
end

