-- ==== Sys2Proof/Laws/Families.lean ====
section
/-! SUPPORT. Sys2Proof/Laws/Families.lean: what one transfer of each command of several transfers can do, said once. -/

namespace Sys2Proof.Machine

/-! ## CALIBRATE -/

/-- The factory-mode request: requested, or aborted. -/
theorem State.calRequest_cases (s : State) :
    (s.writeReply = .ok ∧
      s.calRequest = (s.calBegin.afterWrite regDevMode [s.cfg.devModeFactory]).advance .calibrate 1) ∨
    (∃ d, s.writeReply = .err d ∧
      s.calRequest = (s.calBegin.afterWrite regDevMode [s.cfg.devModeFactory]).calAbort d) := by
  unfold State.calRequest
  cases s.writeReply <;> simp

/-- A poll: calibrated, one more poll to come, timed out, or aborted. -/
theorem State.calPoll_cases (s : State) (k : Nat) :
    (∃ b, s.busReply 1 = .ok b ∧ decodeDevMode s.cfg b[0] = s.cfg.devModeWorking ∧
      s.calPoll k = ((s.afterRead regDevMode 1).setCal .calibrated).ret (.count s.calAttempt.toNat)) ∨
    (∃ b, s.busReply 1 = .ok b ∧ decodeDevMode s.cfg b[0] ≠ s.cfg.devModeWorking ∧ s.calAttempt.toNat < 100 ∧
      s.calPoll k = (s.afterRead regDevMode 1).advance .calibrate (k + 1)) ∨
    (∃ b, s.busReply 1 = .ok b ∧ decodeDevMode s.cfg b[0] ≠ s.cfg.devModeWorking ∧ 100 ≤ s.calAttempt.toNat ∧
      s.calPoll k = ((s.afterRead regDevMode 1).setCal .timedOut).raise .calibrationTimeout) ∨
    (∃ d, s.busReply 1 = .err d ∧ s.calPoll k = (s.afterRead regDevMode 1).calAbort d) := by
  cases hb : s.busReply 1 with
  | err d => exact .inr (.inr (.inr ⟨d, rfl, by simp [State.calPoll, hb]⟩))
  | ok b =>
    by_cases hw : decodeDevMode s.cfg b[0] = s.cfg.devModeWorking
    · exact .inl ⟨b, rfl, hw, by simp [State.calPoll, hb, hw]⟩
    · by_cases hn : s.calAttempt.toNat < 100
      · exact .inr (.inl ⟨b, rfl, hw, hn, by simp [State.calPoll, hb, hw, hn, Config.calMaxAttempts]⟩)
      · exact .inr (.inr (.inl ⟨b, rfl, hw, by omega, by simp [State.calPoll, hb, hw, hn, Config.calMaxAttempts]⟩))

/-- The transfer of CALIBRATE after the first `k`: the request, a delay, or a poll. -/
theorem State.calResume_cases (k : Nat) (s : State) :
    (k = 0 ∧ State.calResume k s = s.calRequest) ∨
    (k % 2 = 1 ∧ State.calResume k s = s.calDelay k (if k = 1 then 300 else 200)) ∨
    (k ≠ 0 ∧ k % 2 = 0 ∧ State.calResume k s = s.calPoll k) := by
  unfold State.calResume
  by_cases h0 : k = 0
  · simp [h0]
  · by_cases h1 : k = 1
    · simp [h1, Config.calSettleMs]
    · by_cases h2 : k % 2 = 1
      · simp [h0, h1, h2, Config.calPollMs]
      · simp [h0, h1, h2]; omega

/-! ## GET_COORDINATES and GESTURE_DETECT -/

theorem State.coordResume_eq (k : Nat) (s : State) :
    State.coordResume k s = match s.coordTransfer with
      | (.more, t) => t.advance .getCoordinates (k + 1)
      | (.sample x y, t) => t.ret (.point x y)
      | (.failed e, t) => t.raise e := rfl

theorem State.gestureResume_eq (k : Nat) (s : State) :
    State.gestureResume k s = match s.coordTransfer with
      | (.more, t) => t.advance .gestureDetect (k + 1)
      | (.sample x y, t) => (t.putSample s.gestureIteration x y).gestureNext k
      | (.failed _, t) => (t.emit (.sampleDiscarded s.gestureIteration)).gestureNext k := rfl

/-- After an iteration: the next one starts, or the command ends OK with the window's kind. -/
theorem State.gestureNext_cases (s : State) (k : Nat) :
    (s.smpIter.toNat < 19 ∧ s.gestureNext k = s.startIteration.advance .gestureDetect (k + 1)) ∨
    (19 ≤ s.smpIter.toNat ∧ s.gestureNext k = s.ret (.gesture (gestureCode s.gestureResult))) := by
  unfold State.gestureNext
  by_cases h : s.smpIter.toNat < 19
  · simp [h, Config.gestureSamples]
  · simp [h, Config.gestureSamples]; omega

/-- The classifier answers Right, Left, Up or Fault (43_gesture.md R166). -/
theorem classify_cases (dx dy : Int) :
    classify dx dy = .fault ∨ classify dx dy = .right ∨ classify dx dy = .left ∨ classify dx dy = .up := by
  unfold classify
  split
  · simp
  · split
    · split <;> simp
    · split
      · split <;> simp
      · simp

/-- The kind of a sequence that has a sample. -/
theorem swipeKind_eq {l : List (Coord × Coord)} (h : l ≠ []) :
    swipeKind l = classify (delta (l.head h).1 (l.getLast h).1) (delta (l.head h).2 (l.getLast h).2) := by
  cases l with
  | nil => exact absurd rfl h
  | cons a l => simp [swipeKind, delta, List.getLast_eq_getLastD]

/-- Reading an entry of the window. -/
theorem State.sampleAt_eq (s : State) (i : Nat) (h : i < 19) : s.sampleAt i = (s.smpX[i], s.smpY[i]) := by
  simp [State.sampleAt, h]

/-- The result is the kind of the sample sequence (43_gesture.md R163 to R165). -/
theorem State.gestureResult_eq (s : State) (h : s.cfg.sampleDiscardPolicy = .compact → s.smpN.toNat ≤ 19) :
    s.gestureResult = swipeKind s.sampleSeq := by
  unfold State.gestureResult State.firstLast State.sampleSeq
  cases hp : s.cfg.sampleDiscardPolicy with
  | compact =>
    replace h := h hp
    by_cases h0 : s.smpN = 0
    · simp [h0, swipeKind]
    · have hn : 0 < s.smpN.toNat := by
        rcases Nat.eq_zero_or_pos s.smpN.toNat with hz | hz
        · exact absurd (BitVec.eq_of_toNat_eq hz) h0
        · exact hz
      have hne : (s.smpX.toList.zip s.smpY.toList).take s.smpN.toNat ≠ [] := by
        rw [← List.length_pos_iff]; simp; omega
      rw [swipeKind_eq hne]
      rw [if_neg h0]
      simp [List.head_eq_getElem, List.getLast_eq_getElem, State.sampleAt_eq _ 0 (by omega),
        State.sampleAt_eq _ (s.smpN.toNat - 1) (by omega), Nat.min_eq_left h]
  | slotKeep =>
    have hne : s.smpX.toList.zip s.smpY.toList ≠ [] := by
      rw [← List.length_pos_iff]; simp
    rw [swipeKind_eq hne]
    simp [List.head_eq_getElem, List.getLast_eq_getElem, State.sampleAt_eq _ 0 (by omega),
      State.sampleAt_eq _ 18 (by omega), Config.gestureSamples]

/-! ## HARD_RESET -/

/-- The transfer of HARD_RESET after the first `k`. -/
theorem State.hardResetResume_cases (k : Nat) (s : State) :
    (k = 0 ∧ s.pinReply = .ok ∧ State.hardResetResume k s = (s.afterPin .low).advance .hardReset 1) ∨
    (k = 0 ∧ s.pinReply = .err ∧ State.hardResetResume k s = (s.afterPin .low).raise .pinError) ∨
    (k = 1 ∧ State.hardResetResume k s = (s.delay 10).advance .hardReset 2) ∨
    (2 ≤ k ∧ s.pinReply = .ok ∧ State.hardResetResume k s = (s.afterPin .high).ret (.bytes [])) ∨
    (2 ≤ k ∧ s.pinReply = .err ∧ State.hardResetResume k s = (s.afterPin .high).raise .pinError) := by
  match k with
  | 0 => cases h : s.pinReply <;> simp [State.hardResetResume, State.pinThen, h]
  | 1 => simp [State.hardResetResume, Config.resetPulseMs]
  | k + 2 => cases h : s.pinReply <;> simp [State.hardResetResume, State.pinThen, h]

end Sys2Proof.Machine
end

