-- ==== Sys2Proof/Laws/PerInstr.lean ====
section
/-! SUPPORT. Sys2Proof/Laws/PerInstr.lean: a fact about every command as syntax, proved command by command: its encoded
word has the length its format gives it (30_encoding.md R71, R72, R78). -/

/-- The word of the command is as long as its format says, where its operands fit their fields. -/
def Sys2Proof.Laws.EncodedLength.Statement (i : Sys2Proof.Instr) : Prop :=
  i.encodable = true → (Sys2Proof.encode i).length = Sys2Proof.wordLengthOf (Sys2Proof.encode i)

namespace Sys2Proof.Laws

open Sys2Proof

theorem EncodedLength.readReg (addr : Byte) :
    EncodedLength.Statement (.readReg addr) :=
  fun _ => rfl

theorem EncodedLength.writeReg (addr : Byte) (data : List Byte) :
    EncodedLength.Statement (.writeReg addr data) := by
  intro h
  have hd : data.length < 256 := by simpa [Instr.encodable] using h
  have hm : data.length % 256 = data.length := Nat.mod_eq_of_lt hd
  simp [encode, Instr.opcode, Instr.operandBytes, wordLengthOf, formatOf, Format.wordLength, hm]
  omega

theorem EncodedLength.readAfterWrite (addr len : Byte) :
    EncodedLength.Statement (.readAfterWrite addr len) :=
  fun _ => rfl

theorem EncodedLength.decodeTouch (b0 b1 b2 b3 b4 b5 : Byte) :
    EncodedLength.Statement (.decodeTouch b0 b1 b2 b3 b4 b5) :=
  fun _ => rfl

theorem EncodedLength.decodeMultitouch (b0 b1 b2 b3 b4 b5 b6 b7 b8 b9 b10 b11 : Byte) :
    EncodedLength.Statement (.decodeMultitouch b0 b1 b2 b3 b4 b5 b6 b7 b8 b9 b10 b11) :=
  fun _ => rfl

theorem EncodedLength.decodeGesture (b0 : Byte) :
    EncodedLength.Statement (.decodeGesture b0) :=
  fun _ => rfl

theorem EncodedLength.decodeChipId (b0 : Byte) :
    EncodedLength.Statement (.decodeChipId b0) :=
  fun _ => rfl

theorem EncodedLength.decodeDevMode (b0 : Byte) :
    EncodedLength.Statement (.decodeDevMode b0) :=
  fun _ => rfl

theorem EncodedLength.readDevMode : EncodedLength.Statement .readDevMode :=
  fun _ => rfl

theorem EncodedLength.readGestureId : EncodedLength.Statement .readGestureId :=
  fun _ => rfl

theorem EncodedLength.detectTouch : EncodedLength.Statement .detectTouch :=
  fun _ => rfl

theorem EncodedLength.readTouch (slot : Byte) :
    EncodedLength.Statement (.readTouch slot) :=
  fun _ => rfl

theorem EncodedLength.readMultitouch : EncodedLength.Statement .readMultitouch :=
  fun _ => rfl

theorem EncodedLength.readChipId : EncodedLength.Statement .readChipId :=
  fun _ => rfl

theorem EncodedLength.readFirmwareId : EncodedLength.Statement .readFirmwareId :=
  fun _ => rfl

theorem EncodedLength.readLibVersion : EncodedLength.Statement .readLibVersion :=
  fun _ => rfl

theorem EncodedLength.calibrate : EncodedLength.Statement .calibrate :=
  fun _ => rfl

theorem EncodedLength.getCoordinates : EncodedLength.Statement .getCoordinates :=
  fun _ => rfl

theorem EncodedLength.gestureDetect : EncodedLength.Statement .gestureDetect :=
  fun _ => rfl

theorem EncodedLength.giRead : EncodedLength.Statement .giRead :=
  fun _ => rfl

theorem EncodedLength.giSet (b0 b1 b2 b3 b4 b5 : Byte) :
    EncodedLength.Statement (.giSet b0 b1 b2 b3 b4 b5) :=
  fun _ => rfl

theorem EncodedLength.giWrite : EncodedLength.Statement .giWrite :=
  fun _ => rfl

theorem EncodedLength.getCapabilities : EncodedLength.Statement .getCapabilities :=
  fun _ => rfl

theorem EncodedLength.hardReset : EncodedLength.Statement .hardReset :=
  fun _ => rfl

end Sys2Proof.Laws
end

