-- ==== Sys2Proof/Machine/Assembler.lean ====
section
/-! DEFINITION. Sys2Proof/Machine/Assembler.lean: the assembler text of 30_encoding.md R79: the mnemonic, then the
operands in format order, separated by commas, each a number in hexadecimal or decimal (log entry 20). -/

namespace Sys2Proof.Machine

/-- The mnemonic column of 30_encoding.md R75. -/
def mnemonicOf : Instr → String
  | .readReg _ => "READ_REG"
  | .writeReg _ _ => "WRITE_REG"
  | .readAfterWrite _ _ => "READ_AFTER_WRITE"
  | .decodeTouch _ _ _ _ _ _ => "DECODE_TOUCH"
  | .decodeMultitouch _ _ _ _ _ _ _ _ _ _ _ _ => "DECODE_MULTITOUCH"
  | .decodeGesture _ => "DECODE_GESTURE"
  | .decodeChipId _ => "DECODE_CHIP_ID"
  | .decodeDevMode _ => "DECODE_DEV_MODE"
  | .readDevMode => "READ_DEV_MODE"
  | .readGestureId => "READ_GESTURE_ID"
  | .detectTouch => "DETECT_TOUCH"
  | .readTouch _ => "READ_TOUCH"
  | .readMultitouch => "READ_MULTITOUCH"
  | .readChipId => "READ_CHIP_ID"
  | .readFirmwareId => "READ_FIRMWARE_ID"
  | .readLibVersion => "READ_LIB_VERSION"
  | .calibrate => "CALIBRATE"
  | .getCoordinates => "GET_COORDINATES"
  | .gestureDetect => "GESTURE_DETECT"
  | .giRead => "GI_READ"
  | .giSet _ _ _ _ _ _ => "GI_SET"
  | .giWrite => "GI_WRITE"
  | .getCapabilities => "GET_CAPABILITIES"
  | .hardReset => "HARD_RESET"

/-- The operands as the text lists them: the fields in format order; WRITE_REG lists no `len` (R79). -/
def asmOperands : Instr → List Byte
  | .writeReg addr data => addr :: data
  | i => i.operandBytes

/-- The opcode of a mnemonic (R75); the mnemonics of the table and no others (R79: no pseudo-commands). -/
def opcodeOf (mnemonic : String) : Option Byte :=
  [("READ_REG", 0x01), ("WRITE_REG", 0x02), ("READ_AFTER_WRITE", 0x03), ("DECODE_TOUCH", 0x10),
    ("DECODE_MULTITOUCH", 0x11), ("DECODE_GESTURE", 0x12), ("DECODE_CHIP_ID", 0x13), ("DECODE_DEV_MODE", 0x14),
    ("READ_DEV_MODE", 0x20), ("READ_GESTURE_ID", 0x21), ("DETECT_TOUCH", 0x22), ("READ_TOUCH", 0x23),
    ("READ_MULTITOUCH", 0x24), ("READ_CHIP_ID", 0x25), ("READ_FIRMWARE_ID", 0x26), ("READ_LIB_VERSION", 0x27),
    ("CALIBRATE", 0x30), ("GET_COORDINATES", 0x31), ("GESTURE_DETECT", 0x32), ("GI_READ", 0x40), ("GI_SET", 0x41),
    ("GI_WRITE", 0x42), ("GET_CAPABILITIES", 0x43), ("HARD_RESET", 0x50)].lookup mnemonic

/-- The word of a mnemonic and its operands; format W gets its `len` from the number of data bytes (R79). The word is
the one the decoder takes, or there is none. -/
def assembleWord (mnemonic : String) (operands : List Byte) : Option (List Byte) :=
  (opcodeOf mnemonic).bind fun op =>
    let word := match formatOf op, operands with
      | some .W, addr :: data => op :: addr :: BitVec.ofNat 8 data.length :: data
      | _, _ => op :: operands
    match decode word with
    | .ok _ => some word
    | .error _ => none

/-- The value of one digit in the given base. -/
def digitOf (base : Nat) (c : Char) : Option Nat :=
  let n := c.toNat
  let d := if 48 ≤ n ∧ n ≤ 57 then n - 48
    else if 65 ≤ n ∧ n ≤ 70 then n - 55
    else if 97 ≤ n ∧ n ≤ 102 then n - 87
    else base
  if d < base then some d else none

/-- A non-empty row of digits in the given base. -/
def parseDigits (base : Nat) : List Char → Option Nat
  | [] => none
  | cs => cs.foldl (fun acc c => acc.bind fun n => (digitOf base c).map (base * n + ·)) (some 0)

/-- An operand: a number that fits a byte, `0xNN` or decimal (R79). -/
def parseOperand (cs : List Char) : Option Byte :=
  let n := match cs with
    | '0' :: 'x' :: ds => parseDigits 16 ds
    | ds => parseDigits 10 ds
  n.bind fun n => if n < 256 then some (BitVec.ofNat 8 n) else none

/-- The pieces of a list between the separators that `p` names. -/
def pieces (p : Char → Bool) : List Char → List (List Char)
  | [] => [[]]
  | c :: cs =>
    match pieces p cs with
    | [] => [[c]]
    | w :: ws => if p c then [] :: w :: ws else (c :: w) :: ws

/-- A line of assembler text, assembled: the word of the command it names (R79). -/
def assemble (line : String) : Option (List Byte) :=
  let mnemonic := line.toList.takeWhile (· != ' ')
  let rest := (line.toList.drop mnemonic.length).filter (· != ' ')
  let operands := if rest.isEmpty then [] else pieces (· == ',') rest
  (operands.mapM parseOperand).bind (assembleWord (String.ofList mnemonic))

end Sys2Proof.Machine
end

