-- ==== Sys2Proof/Tests/Slice0.lean ====
section
/-! SUPPORT. Sys2Proof/Tests/Slice0.lean: the model's own tests. Words are written out from 30_encoding.md R71 and R75;
the results expected of a step are those of spec/95 (named there X.. and V-..) unless a comment says otherwise. -/

namespace Sys2Proof.Tests

open Sys2Proof Sys2Proof.Machine

/-! ## Helpers -/

/-- TESTCFG of spec/95 section 0. -/
def testCfg : Config where
  devAddr := 0x38
  maxWidth := 240
  maxHeight := 320
  chipIdExpected := 0x11
  devModeBitMask := 0x70
  devModeBitPosition := 0x04
  devModeFactory := 0x04
  devModeWorking := 0x00
  gestureInitBase := 0x91
  gestureFeature := true
  resetHelper := true

/-- TESTCFG2 of spec/95 section 0. -/
def testCfg2 : Config :=
  { testCfg with devModeBitMask := 0xFF, devModeBitPosition := 0xFF, devModeFactory := 0x40 }

/-- The block after reset, with words to come and answers to give. -/
def fresh (c : Config) (words : List (List Byte)) (bus : List BusAnswer := []) (pins : List PinOutcome := []) : State :=
  { State.ofConfig c with env := { Env.initial with words := words, busScript := bus, pinScript := pins } }

/-- The same, in the middle of a command. -/
def during (c : Config) (cmd : Instr) (k : Nat) (bus : List BusAnswer := []) (pins : List PinOutcome := []) : State :=
  { fresh c [] bus pins with seq := .busy cmd k }

/-- TESTCFG with a poll budget. -/
def budgetCfg (n : Nat) (h : 1 ≤ n) : Config :=
  { testCfg with coordPollBudget := some ⟨n, h⟩ }

/-- An error detail. -/
def e7 : BusErrDetail := ⟨7⟩

/-- The result record and the history after a step. -/
def recordOf : Host.Outcome State Fault Refusal → Option (Byte × Payload × List Event)
  | .next t => some (t.status, t.result, t.hist)
  | _ => none

/-- The sequencer and the history after a step. -/
def seqOf : Host.Outcome State Fault Refusal → Option (Seq × List Event)
  | .next t => some (t.seq, t.hist)
  | _ => none

/-! ## WellFormed: an ill-formed command for each check -/

theorem test_wf_data_too_long (data : List Byte) (h : data.length = 256) :
    (Instr.writeReg 0x00 data).encodable = false := by
  simp [Instr.encodable, h]
theorem test_wf_write_empty : (Instr.writeReg 0x10 []).wellFormed = false := by decide
theorem test_wf_write_past_end : (Instr.writeReg 0xFF [0xAA, 0xBB]).wellFormed = false := by decide
theorem test_wf_read_empty : (Instr.readAfterWrite 0x10 0x00).wellFormed = false := by decide
theorem test_wf_read_past_end : (Instr.readAfterWrite 0x02 0xFF).wellFormed = false := by decide
theorem test_wf_slot : (Instr.readTouch 0x02).wellFormed = false := by decide
theorem test_wf_good : (Instr.readAfterWrite 0x01 0xFF).wellFormed = true := by decide

/-! ## Decode: a word of every command -/

theorem test_decode_READ_REG : decode [0x01, 0xA6] = .ok (.readReg 0xA6) := by decide
theorem test_decode_WRITE_REG :
    decode [0x02, 0x91, 0x03, 0x01, 0x02, 0x03] = .ok (.writeReg 0x91 [0x01, 0x02, 0x03]) := by decide
theorem test_decode_READ_AFTER_WRITE : decode [0x03, 0x03, 0x06] = .ok (.readAfterWrite 0x03 0x06) := by decide
theorem test_decode_DECODE_TOUCH :
    decode [0x10, 0x01, 0x20, 0x00, 0x30, 0x64, 0x05] = .ok (.decodeTouch 0x01 0x20 0x00 0x30 0x64 0x05) := by decide
theorem test_decode_DECODE_MULTITOUCH :
    decode [0x11, 0x01, 0x20, 0x00, 0x30, 0x64, 0x05, 0x0F, 0xFF, 0x8A, 0x01, 0x10, 0x02] =
      .ok (.decodeMultitouch 0x01 0x20 0x00 0x30 0x64 0x05 0x0F 0xFF 0x8A 0x01 0x10 0x02) := by decide
theorem test_decode_DECODE_GESTURE : decode [0x12, 0x1C] = .ok (.decodeGesture 0x1C) := by decide
theorem test_decode_DECODE_CHIP_ID : decode [0x13, 0x11] = .ok (.decodeChipId 0x11) := by decide
theorem test_decode_DECODE_DEV_MODE : decode [0x14, 0x74] = .ok (.decodeDevMode 0x74) := by decide
theorem test_decode_READ_DEV_MODE : decode [0x20] = .ok .readDevMode := by decide
theorem test_decode_READ_GESTURE_ID : decode [0x21] = .ok .readGestureId := by decide
theorem test_decode_DETECT_TOUCH : decode [0x22] = .ok .detectTouch := by decide
theorem test_decode_READ_TOUCH : decode [0x23, 0x01] = .ok (.readTouch 0x01) := by decide
theorem test_decode_READ_MULTITOUCH : decode [0x24] = .ok .readMultitouch := by decide
theorem test_decode_READ_CHIP_ID : decode [0x25] = .ok .readChipId := by decide
theorem test_decode_READ_FIRMWARE_ID : decode [0x26] = .ok .readFirmwareId := by decide
theorem test_decode_READ_LIB_VERSION : decode [0x27] = .ok .readLibVersion := by decide
theorem test_decode_CALIBRATE : decode [0x30] = .ok .calibrate := by decide
theorem test_decode_GET_COORDINATES : decode [0x31] = .ok .getCoordinates := by decide
theorem test_decode_GESTURE_DETECT : decode [0x32] = .ok .gestureDetect := by decide
theorem test_decode_GI_READ : decode [0x40] = .ok .giRead := by decide
theorem test_decode_GI_SET :
    decode [0x41, 0x01, 0x02, 0x03, 0x04, 0x05, 0x06] = .ok (.giSet 0x01 0x02 0x03 0x04 0x05 0x06) := by decide
theorem test_decode_GI_WRITE : decode [0x42] = .ok .giWrite := by decide
theorem test_decode_GET_CAPABILITIES : decode [0x43] = .ok .getCapabilities := by decide
theorem test_decode_HARD_RESET : decode [0x50] = .ok .hardReset := by decide

/-- R72: V-X8, V-X16, V-D12, section 2.8; and the empty word. -/
theorem test_decode_lengths :
    decode [0x02, 0x00, 0x02, 0x40] = .error (.wrongLength 0x02) ∧ decode [0x01] = .error (.wrongLength 0x01) ∧
    decode [0x10, 0x01, 0x20, 0x00, 0x30, 0x64] = .error (.wrongLength 0x10) ∧
    decode [0x20, 0x00] = .error (.wrongLength 0x20) ∧ decode [] = .error .emptyWord := by decide

/-- R76: section 2.8. -/
theorem test_decode_unassigned : ∀ op ∈ ([0x00, 0x04, 0x15, 0x28, 0x33, 0x44, 0x51, 0xFF] : List Byte),
    decode [op] = .error (.unassignedOpcode op) := by decide

/-- The bits of a table row: byte 0 in the low bits, zero bytes above. -/
theorem test_tableWord :
    decodeTableWord 8 0x03 = some (.readAfterWrite 0 0) ∧ decodeTableWord 8 0x02 = some (.writeReg 0 []) ∧
    decodeTableWord 24 0x060303 = some (.readAfterWrite 0x03 0x06) ∧ decodeTableWord 8 0x00 = none := by decide

/-! ## The assembler (R79) -/

/-- The example of R79, and the count that format W's assembler adds. -/
theorem test_assemble :
    assemble "READ_AFTER_WRITE 0x03, 6" = some [0x03, 0x03, 0x06] ∧
    assemble "WRITE_REG 0x00, 0x40" = some [0x02, 0x00, 0x01, 0x40] := by decide

/-- No pseudo-commands, no operand above a byte, no missing operand. -/
theorem test_assemble_refuses :
    assemble "NOP" = none ∧ assemble "READ_REG 256" = none ∧ assemble "READ_TOUCH" = none := by decide

/-! ## One step of every command -/

theorem test_READ_REG : recordOf (step (fresh testCfg [[0x01, 0xA6]] [.ok [0x5A]])) =
    some (0x00, .bytes [0x5A], [.busWriteRead 0x38 [0xA6] 1 (.ok [0x5A]), .commandEnd 0x00]) := by decide -- V-X1
theorem test_READ_REG_err : recordOf (step (fresh testCfg [[0x01, 0x02]] [.err e7])) =
    some (0x01, .busError e7, [.busWriteRead 0x38 [0x02] 1 (.err e7), .commandEnd 0x01]) := by decide -- V-X3
theorem test_WRITE_REG : recordOf (step (fresh testCfg [[0x02, 0x91, 0x03, 0x01, 0x02, 0x03]] [.ok []])) =
    some (0x00, .bytes [], [.busWrite 0x38 [0x91, 0x01, 0x02, 0x03] .ok, .commandEnd 0x00]) := by decide -- V-X5
theorem test_WRITE_REG_past_end : recordOf (step (fresh testCfg [[0x02, 0xFF, 0x02, 0xAA, 0xBB]])) =
    some (0x06, .none, [.commandEnd 0x06]) := by decide -- V-X7
theorem test_READ_AFTER_WRITE : recordOf (step (fresh testCfg [[0x03, 0xFF, 0x01]] [.ok [0x7E]])) =
    some (0x00, .bytes [0x7E], [.busWriteRead 0x38 [0xFF] 1 (.ok [0x7E]), .commandEnd 0x00]) := by decide -- V-X11
theorem test_READ_AFTER_WRITE_past_end : recordOf (step (fresh testCfg [[0x03, 0xFF, 0x02]])) =
    some (0x06, .none, [.commandEnd 0x06]) := by decide -- V-X12
theorem test_DECODE_TOUCH : recordOf (step (fresh testCfg [[0x10, 0x01, 0x20, 0x00, 0x30, 0x64, 0x05]])) =
    some (0x00, .touch ⟨true, 288, 48, 100, 5⟩, [.commandEnd 0x00]) := by decide -- X1, V-D1
theorem test_DECODE_TOUCH_nibbles : recordOf (step (fresh testCfg [[0x10, 0x0A, 0x0B, 0x0C, 0x0D, 0x80, 0x7F]])) =
    some (0x00, .touch ⟨true, 2571, 3085, 128, 127⟩, [.commandEnd 0x00]) := by decide -- V-D6
theorem test_DECODE_MULTITOUCH : recordOf (step (fresh testCfg
    [[0x11, 0x00, 0x00, 0x00, 0x00, 0x00, 0x00, 0xC3, 0x45, 0xF6, 0x78, 0x9A, 0xBC]])) =
    some (0x00, .multiTouch ⟨true, #v[0, 837], #v[0, 1656], #v[0, 154], #v[0, 188]⟩, [.commandEnd 0x00]) := by
  decide -- V-D11
theorem test_DECODE_GESTURE : recordOf (step (fresh testCfg [[0x12, 0x1C]])) =
    some (0x00, .gesture 4, [.commandEnd 0x00]) := by decide
theorem test_DECODE_GESTURE_no_mask : recordOf (step (fresh testCfg [[0x12, 0x11]])) =
    some (0x00, .gesture 7, [.commandEnd 0x00]) := by decide
theorem test_DECODE_CHIP_ID : recordOf (step (fresh testCfg [[0x13, 0x91]])) =
    some (0x02, .idMismatch 0x91, [.commandEnd 0x02]) := by decide
theorem test_DECODE_DEV_MODE : recordOf (step (fresh
    { testCfg with devModeBitMask := 0x0F, devModeBitPosition := 0x0C } [[0x14, 0x05]])) =
    some (0x00, .byte 0x04, [.commandEnd 0x00]) := by decide
theorem test_READ_DEV_MODE : recordOf (step (fresh testCfg2 [[0x20]] [.ok [0x40]])) =
    some (0x00, .byte 0x40, [.busWriteRead 0x38 [0x00] 1 (.ok [0x40]), .commandEnd 0x00]) := by decide -- V-R14
theorem test_READ_GESTURE_ID : recordOf (step (fresh testCfg [[0x21]] [.ok [0x48]])) =
    some (0x00, .gesture 5, [.busWriteRead 0x38 [0x01] 1 (.ok [0x48]), .commandEnd 0x00]) := by decide -- V-R2
theorem test_DETECT_TOUCH : recordOf (step (fresh testCfg [[0x22]] [.ok [0x02]])) =
    some (0x00, .count 2, [.busWriteRead 0x38 [0x02] 1 (.ok [0x02]), .commandEnd 0x00]) := by decide -- V-T3
theorem test_DETECT_TOUCH_clamp : recordOf (step (fresh testCfg [[0x22]] [.ok [0x03]])) =
    some (0x00, .count 0, [.busWriteRead 0x38 [0x02] 1 (.ok [0x03]), .commandEnd 0x00]) := by decide -- V-T4
theorem test_READ_TOUCH : recordOf (step (fresh testCfg [[0x23, 0x01]] [.ok [0x02, 0x58, 0x01, 0x2C, 0x10, 0x00]])) =
    some (0x00, .touch ⟨true, 600, 300, 16, 0⟩,
      [.busWriteRead 0x38 [0x09] 6 (.ok [0x02, 0x58, 0x01, 0x2C, 0x10, 0x00]), .commandEnd 0x00]) := by decide -- V-R5
theorem test_READ_TOUCH_slot : recordOf (step (fresh testCfg [[0x23, 0x02]])) =
    some (0x06, .none, [.commandEnd 0x06]) := by decide -- V-R6
theorem test_READ_MULTITOUCH : recordOf (step (fresh testCfg [[0x24]]
    [.ok [0x01, 0x20, 0x00, 0x30, 0x64, 0x05, 0x0F, 0xFF, 0x8A, 0x01, 0x10, 0x02]])) =
    some (0x00, .multiTouch ⟨true, #v[288, 4095], #v[48, 2561], #v[100, 16], #v[5, 2]⟩,
      [.busWriteRead 0x38 [0x03] 12 (.ok [0x01, 0x20, 0x00, 0x30, 0x64, 0x05, 0x0F, 0xFF, 0x8A, 0x01, 0x10, 0x02]),
        .commandEnd 0x00]) := by decide -- V-R8
theorem test_READ_CHIP_ID : recordOf (step (fresh testCfg [[0x25]] [.ok [0x06]])) =
    some (0x02, .idMismatch 0x06, [.busWriteRead 0x38 [0xA8] 1 (.ok [0x06]), .commandEnd 0x02]) := by decide -- V-R10
theorem test_READ_FIRMWARE_ID : recordOf (step (fresh testCfg [[0x26]] [.ok [0x10]])) =
    some (0x00, .byte 0x10, [.busWriteRead 0x38 [0xA6] 1 (.ok [0x10]), .commandEnd 0x00]) := by decide -- V-R12
theorem test_READ_LIB_VERSION : recordOf (step (fresh testCfg [[0x27]] [.ok [0x30, 0x03]])) =
    some (0x00, .bytes [0x30, 0x03], [.busWriteRead 0x38 [0xA1] 2 (.ok [0x30, 0x03]), .commandEnd 0x00]) := by
  decide -- V-R13
theorem test_CALIBRATE : seqOf (step (fresh testCfg2 [[0x30]] [.ok []])) =
    some (.busy .calibrate 1, [.busWrite 0x38 [0x00, 0x40] .ok]) := by decide -- V-C1, its first event
theorem test_CALIBRATE_aborts : recordOf (step (fresh testCfg2 [[0x30]] [.err e7])) =
    some (0x01, .busError e7, [.busWrite 0x38 [0x00, 0x40] (.err e7), .commandEnd 0x01]) := by decide -- V-C6
theorem test_GET_COORDINATES : seqOf (step (fresh testCfg [[0x31]] [.ok [0x00]])) =
    some (.busy .getCoordinates 1, [.busWriteRead 0x38 [0x02] 1 (.ok [0x00])]) := by decide -- V-K1, its first event
theorem test_GET_COORDINATES_record : recordOf (step { during testCfg .getCoordinates 3
    [.ok [0x01, 0x20, 0x00, 0x30, 0x64, 0x05]] with recordDue := true }) =
    some (0x00, .point 288 48,
      [.busWriteRead 0x38 [0x03] 6 (.ok [0x01, 0x20, 0x00, 0x30, 0x64, 0x05]), .commandEnd 0x00]) := by
  decide -- V-K1, its last events
theorem test_GESTURE_DETECT : seqOf (step (fresh testCfg [[0x32]] [.err e7])) =
    some (.busy .gestureDetect 1, [.busWriteRead 0x38 [0x02] 1 (.err e7), .sampleDiscarded 0]) := by
  decide -- V-G6, its first events
theorem test_GESTURE_DETECT_absent : recordOf (step (fresh { testCfg with gestureFeature := false } [[0x32]])) =
    some (0x06, .none, [.commandEnd 0x06]) := by decide -- V-G8
theorem test_GI_READ : recordOf (step (fresh testCfg [[0x40]] [.ok [0x0A, 0x0B, 0x0C, 0x0D, 0x0E, 0x0F]])) =
    some (0x00, .gestureInit ⟨0x0A, 0x0B, 0x0C, 0x0D, 0x0E, 0x0F⟩,
      [.busWriteRead 0x38 [0x91] 6 (.ok [0x0A, 0x0B, 0x0C, 0x0D, 0x0E, 0x0F]), .commandEnd 0x00]) := by
  decide -- V-P4
theorem test_GI_SET : recordOf (step (fresh testCfg [[0x41, 0x01, 0x02, 0x03, 0x04, 0x05, 0x06]])) =
    some (0x00, .bytes [], [.commandEnd 0x00]) := by decide -- V-P2
theorem test_GI_WRITE_empty : recordOf (step (fresh testCfg [[0x42]])) =
    some (0x07, .none, [.commandEnd 0x07]) := by decide -- V-P1
theorem test_GI_WRITE : recordOf (step ((fresh testCfg [[0x42]] [.ok []]).loadGi #v[1, 2, 3, 4, 5, 6])) =
    some (0x00, .bytes [], [.busWrite 0x38 [0x91, 0x01, 0x02, 0x03, 0x04, 0x05, 0x06] .ok, .commandEnd 0x00]) := by
  decide -- V-P3
theorem test_GET_CAPABILITIES : recordOf (step (fresh testCfg [[0x43]])) =
    some (0x00, .capabilities ⟨true, false, 2, 240, 320⟩, [.commandEnd 0x00]) := by decide -- V-P6
theorem test_HARD_RESET : seqOf (step (during testCfg .hardReset 1)) =
    some (.busy .hardReset 2, [.delay 10]) := by decide -- V-P7, its second event
theorem test_HARD_RESET_low_fails : recordOf (step (fresh testCfg [[0x50]] [] [.err])) =
    some (0x05, .none, [.pin .low .err, .commandEnd 0x05]) := by decide -- V-P8

/-- Section 2.6: the bound is exclusive, down motion is Left, equal magnitudes are Fault. -/
theorem test_classify :
    classify 140 0 = .fault ∧ classify 100 0 = .right ∧ classify 0 (-101) = .fault ∧ classify 20 (-50) = .left ∧
    classify 20 50 = .up ∧ classify 30 (-30) = .fault ∧ classify 99 (-100) = .left := by decide

/-- Program P3's samples, one sample (R166), none (R166). -/
theorem test_swipeKind :
    swipeKind [(200, 100), (240, 100), (280, 100)] = .right ∧ swipeKind [(200, 100)] = .fault ∧
    swipeKind [] = .fault := by decide

/-- R52, R53: the map at the ends of its rows. -/
theorem test_regAt :
    regAt 0x02 = .touchStatus ∧ regAt 0x08 = .touch1 5 ∧ regAt 0x09 = .touch2 0 ∧ regAt 0x0E = .touch2 5 ∧
    regAt 0x0F = .unnamed ∧ regAt 0x80 = .threshold ∧ regAt 0x97 = .unnamed ∧ regAt 0xA2 = .libVersion 1 := by decide

/-- An opcode-table row, as the host asks for it: decoded, and run as the first command after reset. -/
theorem test_withFetchWord :
    (State.reset.withFetchWord 8 0x42).fetch.map (fun p => decode p.1) = some (.ok .giWrite) ∧
    recordOf (step (State.reset.withFetchWord 8 0x42)) = some (0x07, .none, [.commandEnd 0x07]) := by decide

/-- Two commands never overlap (log entry 10). -/
theorem test_portBusy : exec .giWrite (during testCfg .calibrate 1) = .fault .portBusy := rfl

/-! ## Witnesses: for every statement with hypotheses, a state and operands that meet all of them, clause by clause -/

theorem witness_DecodeOfEncode : (Instr.writeReg 0xFF [0xAA]).encodable = true ∧ Instr.hardReset.encodable = true := by
  decide

theorem witness_EncodeOfDecode : decode [0x02, 0xFF, 0x01, 0xAA] = .ok (.writeReg 0xFF [0xAA]) := by decide

/-- The opcodes at both ends of every row of R76, a word that carries one, and two assigned opcodes. -/
theorem witness_UnassignedOpcodeIsIllegal :
    (∀ op ∈ ([0x00, 0x04, 0x0F, 0x15, 0x1F, 0x28, 0x2F, 0x33, 0x3F, 0x44, 0x4F, 0x51, 0xFF] : List Byte),
      op = 0x00 ∨ (0x04 ≤ op ∧ op ≤ 0x0F) ∨ (0x15 ≤ op ∧ op ≤ 0x1F) ∨ (0x28 ≤ op ∧ op ≤ 0x2F) ∨
        (0x33 ≤ op ∧ op ≤ 0x3F) ∨ (0x44 ≤ op ∧ op ≤ 0x4F) ∨ 0x51 ≤ op) ∧
    ((fresh testCfg [[0x51, 0x00]]).seq = .idle ∧ (fresh testCfg [[0x51, 0x00]]).env.words = [[0x51, 0x00]]) ∧
    (∀ op ∈ ([0x01, 0x50] : List Byte),
      ¬ (op = 0x00 ∨ (0x04 ≤ op ∧ op ≤ 0x0F) ∨ (0x15 ≤ op ∧ op ≤ 0x1F) ∨ (0x28 ≤ op ∧ op ≤ 0x2F) ∨
        (0x33 ≤ op ∧ op ≤ 0x3F) ∨ (0x44 ≤ op ∧ op ≤ 0x4F) ∨ 0x51 ≤ op)) := by decide

theorem witness_WrongLengthIsIllegal :
    (fresh testCfg [[]]).seq = .idle ∧ (fresh testCfg [[]]).env.words = [] :: [] ∧
    [0x02, 0x00, 0x02, 0x40].length ≠ wordLengthOf [0x02, 0x00, 0x02, 0x40] ∧
    [0x20, 0x00].length ≠ wordLengthOf [0x20, 0x00] ∧ [0x12].length ≠ wordLengthOf [0x12] := by decide

theorem witness_StepRunsDecodedCommand :
    (fresh testCfg [[0x43]]).seq = .idle ∧ (fresh testCfg [[0x43]]).env.words = [0x43] :: [] ∧
    decode [0x43] = .ok .getCapabilities := by decide

theorem witness_StepResumesOrWaits :
    (during testCfg .calibrate 1).seq = .busy .calibrate 1 ∧ Instr.giRead ≠ .calibrate ∧
    (fresh testCfg []).seq = .idle ∧ (fresh testCfg []).env.words = [] := by decide

/-- Arguments at the bounds of R233, and one past each. -/
theorem witness_ConstructionChecksConfig :
    let a : ConfigArgs := { (default : ConfigArgs) with devAddr := 0x7F, gestureInitBase := 0xFA, coordPollBudget := some 1 }
    (a.devAddr < 0x80 ∧ a.gestureInitBase ≤ 0xFA ∧ (∀ n, a.coordPollBudget = some n → 1 ≤ n)) ∧
    (¬ (0x80 : Nat) < 0x80) ∧ ¬ (0xFB : Nat) ≤ 0xFA ∧ ¬ (∀ n, (some 0 : Option Nat) = some n → 1 ≤ n) := by
  simp

theorem witness_ReadRegReadsOneRegister :
    (fresh testCfg []).seq = .idle ∧ (fresh testCfg [] [.ok [0x5A]]).busReply 1 = .ok #v[0x5A] ∧
    (fresh testCfg [] [.err e7]).busReply 1 = .err e7 := by decide

/-- The largest transfers at both ends of the space, and one step past each bound. -/
theorem witness_WriteRegWritesInOneTransaction :
    (fresh testCfg []).seq = .idle ∧
    (1 ≤ [0xAA].length ∧ [0xAA].length ≤ 255 ∧ (0xFF : Byte).toNat + [0xAA].length ≤ 256) ∧
    (fresh testCfg [] [.ok []]).writeReply = .ok ∧ (fresh testCfg [] [.err e7]).writeReply = .err e7 ∧
    ¬ (1 ≤ ([] : List Byte).length) ∧ ¬ ((0xFF : Byte).toNat + [0xAA, 0xBB].length ≤ 256) := by decide

theorem witness_ReadAfterWriteReadsRange :
    (fresh testCfg []).seq = .idle ∧
    (1 ≤ (0x01 : Byte).toNat ∧ (0xFF : Byte).toNat + (0x01 : Byte).toNat ≤ 256) ∧
    (1 ≤ (0xFF : Byte).toNat ∧ (0x01 : Byte).toNat + (0xFF : Byte).toNat ≤ 256) ∧
    (fresh testCfg [] [.ok [0x7E]]).busReply 1 = .ok #v[0x7E] ∧ (fresh testCfg [] [.err e7]).busReply 1 = .err e7 ∧
    ¬ (1 ≤ (0x00 : Byte).toNat) ∧ ¬ ((0x02 : Byte).toNat + (0xFF : Byte).toNat ≤ 256) := by decide

theorem witness_DecodeTouchFields : (fresh testCfg []).seq = .idle := rfl
theorem witness_DecodeMultitouchLanes : (fresh testCfg []).seq = .idle := rfl
theorem witness_GiSetLoadsCache : (fresh testCfg []).seq = .idle := rfl

theorem witness_UpperNibblesDoNotMatter :
    (0xF1 : Byte) &&& 0x0F = 0x01 &&& 0x0F ∧ (0xF0 : Byte) &&& 0x0F = 0x00 &&& 0x0F := by decide

theorem witness_GestureCodesDecode :
    (fresh testCfg [] [.ok [0x49]]).seq = .idle ∧ (fresh testCfg [] [.ok [0x49]]).busReply 1 = .ok #v[0x49] := by decide

theorem witness_ChipIdIsChecked :
    (fresh testCfg [] [.ok [0x11]]).seq = .idle ∧ (fresh testCfg [] [.ok [0x11]]).busReply 1 = .ok #v[0x11] ∧
    (fresh testCfg [] [.ok [0x10]]).busReply 1 = .ok #v[0x10] := by decide

theorem witness_DevModeIsMaskedTwice :
    (fresh testCfg [] [.ok [0x74]]).seq = .idle ∧ (fresh testCfg [] [.ok [0x74]]).busReply 1 = .ok #v[0x74] := by decide

theorem witness_DevModeConsequences : testCfg.devModeBitMask &&& testCfg.devModeBitPosition = 0 := by decide

/-- A record to read, and a failure; slot 0 and slot 1; the first slot past them. -/
theorem witness_ReadTouchReadsSlot :
    (fresh testCfg []).seq = .idle ∧ (fresh testCfg [] [.ok [1, 2, 3, 4, 5, 6]]).busReply 6 = .ok #v[1, 2, 3, 4, 5, 6] ∧
    (fresh testCfg [] [.err e7]).busReply 6 = .err e7 ∧ ((0 : Byte) = 0 ∧ (0x03 : Byte) = 0x03) ∧
    ((1 : Byte) = 1 ∧ (0x09 : Byte) = 0x09) ∧ 2 ≤ (0x02 : Byte).toNat := by decide

theorem witness_ReadMultitouchReadsFrame :
    let s := fresh testCfg [] [.ok [1, 2, 3, 4, 5, 6, 7, 8, 9, 10, 11, 12]]
    s.seq = .idle ∧ s.busReply 12 = .ok #v[1, 2, 3, 4, 5, 6, 7, 8, 9, 10, 11, 12] := by decide

theorem witness_VersionsAreRaw :
    (fresh testCfg []).seq = .idle ∧ (fresh testCfg [] [.ok [0x10]]).busReply 1 = .ok #v[0x10] ∧
    (fresh testCfg [] [.ok [0x30, 0x03]]).busReply 2 = .ok #v[0x30, 0x03] := by decide

/-- The largest count that passes, and the smallest that is clamped. -/
theorem witness_DetectTouchClamps :
    (fresh testCfg []).seq = .idle ∧ (fresh testCfg [] [.ok [0x02]]).busReply 1 = .ok #v[0x02] ∧
    (fresh testCfg [] [.ok [0x03]]).busReply 1 = .ok #v[0x03] := by decide

theorem witness_BusErrorEndsReads :
    (fresh testCfg [] [.err e7]).seq = .idle ∧ (fresh testCfg [] [.err e7]).busReply 12 = .err e7 ∧
    ((.readMultitouch, 0x03, 12) : Instr × Byte × Nat) ∈
      ([(.readLibVersion, 0xA1, 2), (.readMultitouch, 0x03, 12)] : List (Instr × Byte × Nat)) := by decide

theorem witness_CalibrateRequestsFactoryMode :
    (fresh testCfg []).seq = .idle ∧ (fresh testCfg [] [.ok []]).writeReply = .ok ∧
    (fresh testCfg [] [.err e7]).writeReply = .err e7 := by decide

/-- The settle delay (k = 1), the first and the last inter-poll delay. -/
theorem witness_CalibrateDelaysBeforePolls :
    ∀ k ∈ [1, 3, 199], (during testCfg .calibrate k).seq = .busy .calibrate k ∧ k % 2 = 1 := by
  simp [during]

/-- A working byte, a byte that is not, at poll 99 and at poll 100, and a failure. -/
theorem witness_CalibratePolls :
    (during testCfg2 .calibrate 198).seq = .busy .calibrate 198 ∧ 198 ≠ 0 ∧ 198 % 2 = 0 ∧
    (during testCfg2 .calibrate 198 [.ok [0x00]]).busReply 1 = .ok #v[0x00] ∧
    ((0x00 : Byte) &&& testCfg2.devModeBitMask) &&& testCfg2.devModeBitPosition = testCfg2.devModeWorking ∧
    (during testCfg2 .calibrate 198 [.ok [0x40]]).busReply 1 = .ok #v[0x40] ∧
    ((0x40 : Byte) &&& testCfg2.devModeBitMask) &&& testCfg2.devModeBitPosition ≠ testCfg2.devModeWorking ∧
    ({ during testCfg2 .calibrate 198 with calAttempt := 99 }).calAttempt.toNat < 100 ∧
    100 ≤ ({ during testCfg2 .calibrate 200 with calAttempt := 100 }).calAttempt.toNat ∧
    (during testCfg2 .calibrate 198 [.err e7]).busReply 1 = .err e7 := by decide

/-- A block that has just requested the factory mode. -/
def requested : State :=
  { during testCfg .calibrate 1 with
    calState := CalState.factoryModeRequested.code
    hist := [.busWrite 0x38 [0x00, 0x04] .ok] }

theorem requested_inv : requested.Inv where
  capRom := rfl
  seqOk := ⟨rfl, by decide, by decide, rfl, rfl⟩
  calOk := fun h => absurd ⟨1, rfl⟩ h
  smpOk := ⟨by decide, by decide⟩
  smpWhole := fun _ => .inl rfl
  histOk := by decide
  seqCounts := rfl

theorem witness_CalStateTransitions : requested.Inv ∧ ∃ t, exec .calibrate requested = .next t :=
  ⟨requested_inv, _, rfl⟩
theorem witness_StepKeepsInvariant : requested.Inv ∧ ∃ t, step requested = .next t :=
  ⟨requested_inv, _, rfl⟩
theorem witness_MachineNeverStops : requested.Inv := requested_inv

/-- Two misses, then a hit; and 99 misses, then a miss. -/
theorem witness_CalibratePollCount :
    ((fresh testCfg2 [[0x30]] ([.ok []] ++ [0x40, 0x40].map (fun b => .ok [b]) ++ [.ok [0x00]])).env.busScript =
      .ok [] :: [0x40, 0x40].map (fun b => .ok [b]) ++ .ok [0x00] :: []) ∧
    [0x40, 0x40].length < 100 ∧
    (∀ b ∈ ([0x40, 0x40] : List Byte),
      (b &&& testCfg2.devModeBitMask) &&& testCfg2.devModeBitPosition ≠ testCfg2.devModeWorking) ∧
    ((0x00 : Byte) &&& testCfg2.devModeBitMask) &&& testCfg2.devModeBitPosition = testCfg2.devModeWorking ∧
    (List.replicate 99 (0x40 : Byte)).length = 99 ∧
    (∀ b ∈ List.replicate 99 (0x40 : Byte),
      (b &&& testCfg2.devModeBitMask) &&& testCfg2.devModeBitPosition ≠ testCfg2.devModeWorking) := by
  refine ⟨rfl, by decide, by decide, by decide, by simp, ?_⟩
  intro b hb
  obtain rfl := List.eq_of_mem_replicate hb
  decide

theorem witness_CalibrateAlwaysEnds :
    (fresh testCfg [[0x30]]).seq = .idle ∧ (fresh testCfg [[0x30]]).env.words = [0x30] :: [] := by decide

/-- V-C10's configuration, at a failed request and at poll 100. -/
theorem witness_CalibrateNeedsReachableMode :
    let c : Config := { testCfg with devModeWorking := 0x40 }
    c.devModeWorking &&& ~~~(c.devModeBitMask &&& c.devModeBitPosition) ≠ 0 ∧
    (∃ t, exec .calibrate (fresh c [] [.err e7]) = .next t ∧ t.seq = .idle) ∧
    (∃ t, exec .calibrate { during c .calibrate 200 [.ok [0x40]] with calAttempt := 100 } = .next t ∧ t.seq = .idle) :=
  ⟨by decide, ⟨_, rfl, rfl⟩, ⟨_, rfl, by decide⟩⟩

/-- From Idle and after two polls: a touch, a budget used up, no budget and a budget with polls left, a failure (V-K4,
its second read). -/
theorem witness_GetCoordinatesCountReads :
    let later := fun bus => { during testCfg .getCoordinates 2 bus with coordPolls := 2 }
    ((fresh testCfg []).seq = .idle ∧ (0 : Nat) = 0 ∧ (0 : Nat) = 0) ∧
    ((later []).seq = .busy .getCoordinates 2 ∧ (later []).recordDue = false ∧ 2 = (later []).coordPolls) ∧
    (fresh testCfg [] [.ok [0x01]]).busReply 1 = .ok #v[0x01] ∧ (later [.ok [0x03]]).busReply 1 = .ok #v[0x03] ∧
    clampCount testCfg 0x01 ≠ 0 ∧ clampCount testCfg 0x03 = 0 ∧
    (budgetCfg 1 (by decide)).coordPollBudget.map Subtype.val = some (0 + 1) ∧
    (budgetCfg 3 (by decide)).coordPollBudget.map Subtype.val = some (2 + 1) ∧
    (budgetCfg 4 (by decide)).coordPollBudget.map Subtype.val ≠ some (2 + 1) ∧
    testCfg.coordPollBudget.map Subtype.val ≠ some (2 + 1) ∧
    (fresh testCfg [] [.err e7]).busReply 1 = .err e7 ∧ (later [.err e7]).busReply 1 = .err e7 := by decide

theorem witness_GetCoordinatesReadsRecord :
    let s := fun bus => { during testCfg .getCoordinates 1 bus with recordDue := true }
    (s []).seq = .busy .getCoordinates 1 ∧ (s []).recordDue = true ∧
    (s [.ok [1, 2, 3, 4, 5, 6]]).busReply 6 = .ok #v[1, 2, 3, 4, 5, 6] ∧ (s [.err e7]).busReply 6 = .err e7 := by decide

/-- Two counts that clamp to 0, under a budget of three. -/
theorem witness_GetCoordinatesWaitsForTouch :
    let c := budgetCfg 3 (by decide)
    let s := fresh c [[0x31]] [.ok [0x00], .ok [0x03], .ok [0x02], .ok [1, 2, 3, 4, 5, 6]]
    s.seq = .idle ∧ s.env.words = [0x31] :: [] ∧
    s.env.busScript = [0x00, 0x03].map (fun b => .ok [b]) ++ .ok [0x02] :: .ok #v[1, 2, 3, 4, 5, 6].toList :: [] ∧
    (∀ b ∈ ([0x00, 0x03] : List Byte), clampCount c b = 0) ∧ clampCount c 0x02 ≠ 0 ∧
    (∀ n, c.coordPollBudget = some n → [0x00, 0x03].length < n.val) := by
  refine ⟨rfl, rfl, rfl, by decide, by decide, ?_⟩
  rintro n hn
  obtain rfl : _ = n := Option.some.inj hn
  decide

theorem witness_PollBudgetEndsTheWait :
    let c := budgetCfg 2 (by decide)
    let s := fresh c [[0x31]] [.ok [0x00], .ok [0x00]]
    s.seq = .idle ∧ s.env.words = [0x31] :: [] ∧ s.env.busScript = [0x00, 0x00].map (fun b => .ok [b]) ++ [] ∧
    (∀ b ∈ ([0x00, 0x00] : List Byte), clampCount c b = 0) ∧
    c.coordPollBudget.map Subtype.val = some ([0x00, 0x00] : List Byte).length := by decide

theorem witness_GetCoordinatesCanSpinForever :
    let s := fresh testCfg [[0x31]]
    let u := { s with env := { s.env with busTail := some (.ok [0x00]) } }
    u.seq = .idle ∧ u.env.words = [0x31] :: [] ∧ u.env.busScript = [] ∧ u.env.busTail = some (.ok [0x00]) ∧
    u.cfg.coordPollBudget = none ∧ clampCount u.cfg 0x00 = 0 ∧ 1 ≤ 1 := by decide

/-- A touch, an empty count with a budget left (none, or of two), a budget of one used up, a failure. -/
theorem witness_GestureDetectStarts :
    let s := fun bus => fresh testCfg [] bus
    (s []).seq = .idle ∧ (s []).cfg.gestureFeature = true ∧ (s [.ok [0x01]]).busReply 1 = .ok #v[0x01] ∧
    clampCount testCfg 0x01 ≠ 0 ∧ (s [.ok [0x00]]).busReply 1 = .ok #v[0x00] ∧ clampCount testCfg 0x00 = 0 ∧
    testCfg.coordPollBudget.map Subtype.val ≠ some 1 ∧
    (budgetCfg 2 (by decide)).coordPollBudget.map Subtype.val ≠ some 1 ∧
    (budgetCfg 1 (by decide)).coordPollBudget.map Subtype.val = some 1 ∧ (s [.err e7]).busReply 1 = .err e7 := by decide

/-- A failed count read, a failed record read and a used-up budget, each in the first iteration, the last but one and the
last. -/
theorem witness_GestureDiscardsFailedSample :
    ∀ n ∈ ([1, 18, 19] : List (BitVec 5)),
      let s := fun c bus => { during c .gestureDetect 5 bus with smpIter := n, smpN := n - 1 }
      (s testCfg []).seq = .busy .gestureDetect 5 ∧ 1 ≤ (s testCfg []).smpIter.toNat ∧
      (s testCfg [.err e7]).nextBusAnswer = .err e7 ∧
      ({ s testCfg [.err e7] with recordDue := true }).nextBusAnswer = .err e7 ∧
      (s testCfg []).recordDue = false ∧ (s (budgetCfg 1 (by decide)) [.ok [0x00]]).busReply 1 = .ok #v[0x00] ∧
      clampCount (budgetCfg 1 (by decide)) 0x00 = 0 ∧
      (budgetCfg 1 (by decide)).coordPollBudget.map Subtype.val = some ((s testCfg []).coordPolls + 1) ∧
      ((s testCfg []).smpIter.toNat - 1 < 18 ∨
        (s testCfg []).smpIter.toNat - 1 = 18 ∧ (s testCfg []).smpN.toNat ≤ 18) := by decide

/-- Where the record read of iteration `i` stands, with `n` samples so far. -/
def recording (policy : DiscardPolicy) (i n : Fin 19) : State :=
  { during { testCfg with sampleDiscardPolicy := policy } .gestureDetect 5 [.ok [1, 2, 3, 4, 5, 6]] with
    recordDue := true, smpIter := BitVec.ofNat 5 (i.val + 1), smpN := BitVec.ofNat 5 n.val }

/-- A touch and an empty count; a record under either policy, in the first iteration, and in the last but one and the last
after one failed iteration (the entry under Compact is the one before the slot). -/
theorem witness_GestureTakesSample :
    let counting := fun bus => during testCfg .gestureDetect 5 bus
    ((counting []).seq = .busy .gestureDetect 5 ∧ (counting []).recordDue = false ∧
      (counting [.ok [0x01]]).busReply 1 = .ok #v[0x01] ∧ clampCount testCfg 0x01 ≠ 0 ∧
      (counting [.ok [0x00]]).busReply 1 = .ok #v[0x00] ∧ clampCount testCfg 0x00 = 0 ∧
      testCfg.coordPollBudget.map Subtype.val ≠ some ((counting []).coordPolls + 1)) ∧
    ∀ policy, ∀ p ∈ ([(0, 0), (17, 16), (18, 17)] : List (Fin 19 × Fin 19)),
      let s := recording policy p.1 p.2
      s.seq = .busy .gestureDetect 5 ∧ s.recordDue = true ∧ s.busReply 6 = .ok #v[1, 2, 3, 4, 5, 6] ∧
      s.smpIter.toNat = p.1.val + 1 ∧ s.cfg.sampleDiscardPolicy = policy ∧ p.2.val = s.smpN.toNat ∧
      (p.1.val < 18 ∨ p.1.val = 18) := by
  refine ⟨by decide, fun policy p hp => ⟨rfl, rfl, by cases policy <;> rfl, ?_, rfl, ?_, by omega⟩⟩ <;>
    (simp only [List.mem_cons, List.not_mem_nil, or_false] at hp; rcases hp with rfl | rfl | rfl <;> rfl)

/-- The iteration of V-D1's record after `n` empty counts. -/
def touchAfter (n : Nat) : Iteration :=
  .touched (List.replicate n 0x00) 0x01 #v[0x01, 0x20, 0x00, 0x30, 0x64, 0x05]

/-- Nineteen iterations under a budget of two, with each of the four ends. -/
def mixedIterations : Vector Iteration 19 :=
  #v[.countFails [] e7, .countFails [0x00] e7, .budgetSpent [0x00, 0x03], .recordFails [0x00] 0x02 e7,
    .recordFails [] 0x01 e7,
    touchAfter 0, touchAfter 1, touchAfter 0, touchAfter 0, touchAfter 0, touchAfter 0, touchAfter 0, touchAfter 0,
    touchAfter 0, touchAfter 0, touchAfter 0, touchAfter 1, .budgetSpent [0x00, 0x00], touchAfter 0]

/-- Iterations that yield no sample, or one. -/
def fewIterations (last : Iteration) : Vector Iteration 19 :=
  #v[.countFails [] e7, .countFails [0x00] e7, .budgetSpent [0x00, 0x03], .recordFails [0x00] 0x02 e7,
    .recordFails [] 0x01 e7,
    .countFails [] e7, .countFails [] e7, .countFails [] e7, .countFails [] e7, .countFails [] e7, .countFails [] e7,
    .countFails [] e7, .countFails [] e7, .countFails [] e7, .countFails [] e7, .countFails [] e7, .countFails [] e7,
    .budgetSpent [0x00, 0x00], last]

/-- TESTCFG with a poll budget of two, under either policy. -/
def twoPolls (policy : DiscardPolicy) : Config :=
  { budgetCfg 2 (by decide) with sampleDiscardPolicy := policy }

/-- `fits` under a budget of two, as a check. -/
def fitsTwoPolls (it : Iteration) : Bool :=
  let empty := fun zeros => zeros.all fun b => clampCount testCfg b == 0
  match it with
  | .countFails zeros _ => empty zeros && zeros.length < 2
  | .budgetSpent zeros => empty zeros && zeros.length == 2
  | .recordFails zeros count _ | .touched zeros count _ =>
    empty zeros && zeros.length < 2 && clampCount testCfg count != 0

theorem fits_of_fitsTwoPolls (policy : DiscardPolicy) (it : Iteration) (h : fitsTwoPolls it = true) :
    it.fits (twoPolls policy) := by
  have hc : ∀ b, clampCount (twoPolls policy) b = clampCount testCfg b := fun _ => rfl
  have hn : ∀ n, (twoPolls policy).coordPollBudget = some n → n.val = 2 := fun n h => by cases h; rfl
  have hb : (twoPolls policy).coordPollBudget.map Subtype.val = some 2 := rfl
  cases it <;> simp_all [fitsTwoPolls, Iteration.fits, keepsPolling]

/-- Both policies, every end of an iteration. -/
theorem witness_GestureClassifiesSwipe (policy : DiscardPolicy) :
    let s := fresh (twoPolls policy) [[0x32]] (mixedIterations.toList.flatMap Iteration.answers ++ [])
    s.seq = .idle ∧ s.env.words = [0x32] :: [] ∧ s.cfg.gestureFeature = true ∧
    s.env.busScript = mixedIterations.toList.flatMap Iteration.answers ++ [] ∧
    (∀ it ∈ mixedIterations.toList, it.fits s.cfg) ∧
    s.cfg.sampleDiscardPolicy = policy ∧ mixedIterations[18].sample = some (288, 48) :=
  have fits : ∀ it ∈ mixedIterations.toList, fitsTwoPolls it = true := by decide
  ⟨rfl, rfl, rfl, rfl, fun it hi => fits_of_fitsTwoPolls policy it (fits it hi), rfl, by decide⟩

/-- One sample, and none. -/
theorem witness_GestureWithFewSamplesIsFault (last : Iteration)
    (h : last = touchAfter 1 ∨ last = .recordFails [] 0x01 e7) :
    let s := fresh (twoPolls .compact) [[0x32]] ((fewIterations last).toList.flatMap Iteration.answers ++ [])
    s.seq = .idle ∧ s.env.words = [0x32] :: [] ∧ s.cfg.gestureFeature = true ∧ s.cfg.sampleDiscardPolicy = .compact ∧
    s.env.busScript = (fewIterations last).toList.flatMap Iteration.answers ++ [] ∧
    (∀ it ∈ (fewIterations last).toList, it.fits s.cfg) ∧
    ((fewIterations last).toList.filterMap Iteration.sample).length ≤ 1 := by
  have fits : ∀ it ∈ (fewIterations last).toList, fitsTwoPolls it = true := by
    obtain rfl | rfl := h <;> decide
  refine ⟨rfl, rfl, rfl, rfl, rfl, fun it hi => fits_of_fitsTwoPolls .compact it (fits it hi), ?_⟩
  obtain rfl | rfl := h <;> decide

/-- Every branch at the bound 100, and one step past it. -/
theorem witness_ClassifierRules :
    (|(101 : Int)| > 100) ∧ (|(-100 : Int)| ≤ 100 ∧ |(99 : Int)| ≤ 100) ∧
    (|(100 : Int)| > |(99 : Int)| ∧ (100 : Int) > 0) ∧ (|(-100 : Int)| > |(99 : Int)| ∧ (-100 : Int) < 0) ∧
    (|(99 : Int)| < |(100 : Int)| ∧ (100 : Int) > 0) ∧ (|(99 : Int)| < |(-100 : Int)| ∧ (-100 : Int) < 0) ∧
    ((100 : Int) = -(-100)) := by decide

/-- The last read of iteration 18. -/
theorem witness_GestureResultKinds :
    ∃ t, exec .gestureDetect { during testCfg .gestureDetect 40 [.err e7] with smpIter := 19 } = .next t ∧ t.seq = .idle :=
  ⟨_, rfl, by decide⟩

theorem witness_GiReadLoadsCache :
    (fresh testCfg []).seq = .idle ∧
    (fresh testCfg [] [.ok [1, 2, 3, 4, 5, 6]]).busReply 6 = .ok #v[1, 2, 3, 4, 5, 6] ∧
    (fresh testCfg [] [.err e7]).busReply 6 = .err e7 := by decide

theorem witness_GiWritePushesCache :
    let s := fun bus => (fresh testCfg [] bus).loadGi #v[1, 2, 3, 4, 5, 6]
    (fresh testCfg []).seq = .idle ∧ (fresh testCfg []).giValid = false ∧ (s []).seq = .idle ∧ (s []).giValid = true ∧
    (s [.ok []]).writeReply = .ok ∧ (s [.err e7]).writeReply = .err e7 := by decide

/-- A device that echoes: its answer is the bytes of the only write. -/
theorem witness_GestureInitRoundTrip :
    let s := fresh testCfg [[0x41, 1, 2, 3, 4, 5, 6], [0x42], [0x40]] [.ok [], .ok [1, 2, 3, 4, 5, 6]]
    (s.seq = .idle ∧ s.env.words = [0x41, 1, 2, 3, 4, 5, 6] :: [0x42] :: [0x40] :: [] ∧
      s.env.busScript = .ok [] :: .ok #v[1, 2, 3, 4, 5, 6].toList :: []) ∧
    ∃ t, runSteps 3 s = .next t ∧
      ∀ data, .busWrite 0x38 (0x91 :: data) .ok ∈ t.hist.drop s.hist.length → #v[1, 2, 3, 4, 5, 6].toList = data := by
  refine ⟨by decide, _, rfl, fun data h => ?_⟩
  change _ ∈ [Event.commandEnd 0x00, .busWrite 0x38 [0x91, 1, 2, 3, 4, 5, 6] .ok, .commandEnd 0x00,
    .busWriteRead 0x38 [0x91] 6 (.ok [1, 2, 3, 4, 5, 6]), .commandEnd 0x00] at h
  simp at h
  simp [h]

theorem witness_GetCapabilitiesReturnsRom :
    (fresh testCfg []).seq = .idle ∧ (fresh testCfg []).cap = capabilitiesOf (fresh testCfg []).cfg := by decide

theorem witness_HardResetTransfers :
    (fresh testCfg []).seq = .idle ∧ testCfg.resetHelper = true ∧ (fresh testCfg [] [] [.ok]).pinReply = .ok ∧
    (fresh testCfg [] [] [.err]).pinReply = .err ∧ (during testCfg .hardReset 1).seq = .busy .hardReset 1 ∧
    (during testCfg .hardReset 2 [] [.ok]).seq = .busy .hardReset 2 ∧
    (during testCfg .hardReset 2 [] [.ok]).pinReply = .ok ∧ (during testCfg .hardReset 2 [] [.err]).pinReply = .err := by
  decide

theorem witness_HardResetPulse :
    let s := fresh testCfg [[0x50]] [] [.ok, .ok]
    s.seq = .idle ∧ s.cfg.resetHelper = true ∧ s.env.words = [0x50] :: [] ∧ s.env.pinScript = .ok :: .ok :: [] := by
  decide

theorem witness_AbsentUnitIsIllegal :
    let s := fresh { testCfg with gestureFeature := false, resetHelper := false } []
    s.seq = .idle ∧ s.cfg.gestureFeature = false ∧ s.cfg.resetHelper = false := by decide

/-- GI_SET runs, and it is none of the commands the first clauses except. -/
theorem witness_WriteSets :
    (∃ t, exec (.giSet 1 2 3 4 5 6) (fresh testCfg []) = .next t) ∧ Instr.giSet 1 2 3 4 5 6 ≠ .calibrate ∧
    Instr.giSet 1 2 3 4 5 6 ≠ .getCoordinates ∧ Instr.giSet 1 2 3 4 5 6 ≠ .gestureDetect ∧
    (∃ t, exec .calibrate (fresh testCfg []) = .next t) ∧ Instr.calibrate ≠ .giRead ∧
    (∀ b0 b1 b2 b3 b4 b5, Instr.calibrate ≠ .giSet b0 b1 b2 b3 b4 b5) :=
  ⟨⟨_, rfl⟩, by decide, by decide, by decide, ⟨_, rfl⟩, by decide, by simp⟩

/-- A step that ends its command, and one that does not. -/
theorem witness_OneTransferPerStep :
    (∃ t, exec .readDevMode (fresh testCfg [] [.ok [0x40]]) = .next t ∧ t.seq = .idle) ∧
    (∃ t, exec .hardReset (during testCfg .hardReset 1) = .next t ∧ t.seq ≠ .idle) :=
  ⟨⟨_, rfl, rfl⟩, ⟨_, rfl, by decide⟩⟩

theorem witness_CommandsReachOwnRegisters :
    ∃ t, exec .readDevMode (fresh testCfg [] [.ok [0x40]]) = .next t ∧
      Event.busWriteRead 0x38 [0x00] 1 (.ok [0x40]) ∈ t.hist.drop 0 ∧
      (Event.busWriteRead 0x38 [0x00] 1 (.ok [0x40])).isBus = true :=
  ⟨_, rfl, by decide, rfl⟩

theorem witness_HistoryIsNotRead : ∃ t, step (fresh testCfg [[0x43]]) = .next t := ⟨_, rfl⟩

/-- Two blocks that differ in registers with no value yet: a step that ends a command, and one that does not. -/
theorem witness_UnsetStateIsNotRead :
    let s := fun w => { fresh testCfg [w] with giCache := #v[1, 2, 3, 4, 5, 6], smpX := Vector.replicate 19 7, status := 0x01 }
    let s' := fun w => { s w with giCache := #v[6, 5, 4, 3, 2, 1], smpX := Vector.replicate 19 9, status := 0x02 }
    (∀ w, (s w).masked = (s' w).masked ∧ (s w).status ≠ (s' w).status) ∧
    (∃ t, step (s [0x42]) = .next t ∧ t.seq = .idle ∧ t.hist ≠ (s [0x42]).hist) ∧
    (∃ t, step { s [0x50] with env := { (s [0x50]).env with pinScript := [.ok] } } = .next t ∧ t.seq ≠ .idle) :=
  ⟨fun _ => ⟨rfl, (by decide : (0x01 : Byte) ≠ 0x02)⟩, ⟨_, rfl, rfl, by decide⟩, ⟨_, rfl, by decide⟩⟩

end Sys2Proof.Tests
end

section
/-! PROOFS. Words that carry no command (30_encoding.md R72, R76, R77): what the decoder answers to every word, and that
the block ends each such word IllegalCommand. -/

namespace Sys2Proof

/-! ### What an operand reader rejects with -/

section Readers

variable {op : Byte} {e : DecodeError} {l : List Byte}

theorem operandsN_error {i : Instr} (h : operandsN op i l = .error e) : e = .wrongLength op := by
  unfold operandsN at h
  split at h <;> simp_all

theorem operandsOne_error {f : Byte → Instr} (h : operandsOne op f l = .error e) : e = .wrongLength op := by
  unfold operandsOne at h
  split at h <;> simp_all

theorem operandsA_error {f : Byte → Byte → Instr} (h : operandsA op f l = .error e) : e = .wrongLength op := by
  unfold operandsA at h
  split at h <;> simp_all

theorem operandsW_error {f : Byte → List Byte → Instr} (h : operandsW op f l = .error e) : e = .wrongLength op := by
  unfold operandsW at h
  split at h
  · split at h <;> simp_all
  · simp_all

theorem operandsB6_error {f : Byte → Byte → Byte → Byte → Byte → Byte → Instr} (h : operandsB6 op f l = .error e) :
    e = .wrongLength op := by
  unfold operandsB6 at h
  split at h <;> simp_all

theorem operandsB12_error
    {f : Byte → Byte → Byte → Byte → Byte → Byte → Byte → Byte → Byte → Byte → Byte → Byte → Instr}
    (h : operandsB12 op f l = .error e) : e = .wrongLength op := by
  unfold operandsB12 at h
  split at h <;> simp_all

end Readers

/-! ### The operand readers give back the whole word -/

/-- What a decoder of an assigned opcode may answer to the word `op :: args`: the command whose word it is, or that the
length is wrong (R72). -/
def Reads (op : Byte) (args : List Byte) : Except DecodeError Instr → Prop
  | .ok i => i.encodable = true ∧ encode i = op :: args
  | .error e => e = .wrongLength op

section ReadersRead

variable {op : Byte} (args : List Byte)

theorem operandsN_reads {i : Instr} (he : i.encodable = true) (hw : encode i = [op]) :
    Reads op args (operandsN op i args) := by
  cases h : operandsN op i args with
  | ok j =>
    obtain ⟨rfl, rfl⟩ := operandsN_ok h
    exact ⟨he, hw⟩
  | error e => exact operandsN_error h

theorem operandsOne_reads {f : Byte → Instr} (he : ∀ b, (f b).encodable = true) (hw : ∀ b, encode (f b) = [op, b]) :
    Reads op args (operandsOne op f args) := by
  cases h : operandsOne op f args with
  | ok j =>
    obtain ⟨b, rfl, rfl⟩ := operandsOne_ok h
    exact ⟨he b, hw b⟩
  | error e => exact operandsOne_error h

theorem operandsA_reads {f : Byte → Byte → Instr} (he : ∀ addr len, (f addr len).encodable = true)
    (hw : ∀ addr len, encode (f addr len) = [op, addr, len]) : Reads op args (operandsA op f args) := by
  cases h : operandsA op f args with
  | ok j =>
    obtain ⟨addr, len, rfl, rfl⟩ := operandsA_ok h
    exact ⟨he addr len, hw addr len⟩
  | error e => exact operandsA_error h

theorem operandsW_reads {f : Byte → List Byte → Instr}
    (he : ∀ addr data, data.length < 256 → (f addr data).encodable = true)
    (hw : ∀ addr data, encode (f addr data) = op :: addr :: BitVec.ofNat 8 data.length :: data) :
    Reads op args (operandsW op f args) := by
  cases h : operandsW op f args with
  | ok j =>
    obtain ⟨addr, data, hlen, rfl, rfl⟩ := operandsW_ok h
    exact ⟨he addr data hlen, hw addr data⟩
  | error e => exact operandsW_error h

theorem operandsB6_reads {f : Byte → Byte → Byte → Byte → Byte → Byte → Instr}
    (he : ∀ b0 b1 b2 b3 b4 b5, (f b0 b1 b2 b3 b4 b5).encodable = true)
    (hw : ∀ b0 b1 b2 b3 b4 b5, encode (f b0 b1 b2 b3 b4 b5) = [op, b0, b1, b2, b3, b4, b5]) :
    Reads op args (operandsB6 op f args) := by
  cases h : operandsB6 op f args with
  | ok j =>
    obtain ⟨b0, b1, b2, b3, b4, b5, rfl, rfl⟩ := operandsB6_ok h
    exact ⟨he .., hw ..⟩
  | error e => exact operandsB6_error h

/-- Format B12 has one command only. -/
theorem operandsB12_reads : Reads 0x11 args (operandsB12 0x11 .decodeMultitouch args) := by
  cases h : operandsB12 0x11 .decodeMultitouch args with
  | ok j =>
    obtain ⟨b0, b1, b2, b3, b4, b5, b6, b7, b8, b9, b10, b11, rfl, rfl⟩ := operandsB12_ok h
    exact ⟨rfl, rfl⟩
  | error e => exact operandsB12_error h

end ReadersRead

/-! ### What the decoder answers -/

/-- An opcode is unassigned, or a reader of its format reads its operands (R71, R75, R76). -/
theorem decodeOpcode_cases (op : Byte) (args : List Byte) :
    (formatOf op = none ∧ decodeOpcode op args = .error (.unassignedOpcode op)) ∨
    ((formatOf op).isSome = true ∧ Reads op args (decodeOpcode op args)) := by
  unfold decodeOpcode
  split
  case h_25 => exact .inl ⟨by simp [formatOf, *], rfl⟩
  all_goals
    rename_i h
    obtain rfl := byte_eq_of_toNat h
    refine .inr ⟨rfl, ?_⟩
  -- formats W, A and B12, then B6, then R, S and B1, then N
  case h_2 => exact operandsW_reads args (fun _ _ => decide_eq_true) fun _ _ => rfl
  case h_3 => exact operandsA_reads args (fun _ _ => rfl) fun _ _ => rfl
  case h_5 => exact operandsB12_reads args
  case h_4 | h_21 => exact operandsB6_reads args (fun _ _ _ _ _ _ => rfl) fun _ _ _ _ _ _ => rfl
  case h_1 | h_6 | h_7 | h_8 | h_12 => exact operandsOne_reads args (fun _ => rfl) fun _ => rfl
  all_goals exact operandsN_reads args rfl rfl

/-- A word that decodes is the word of its command. -/
theorem encode_of_decode_ok {w : List Byte} {i : Instr} (h : decode w = .ok i) :
    i.encodable = true ∧ encode i = w := by
  cases w with
  | nil => simp [decode] at h
  | cons op args =>
    rw [decode] at h
    obtain ⟨-, hu⟩ | ⟨-, hr⟩ := decodeOpcode_cases op args
    · simp [hu] at h
    · simpa [h, Reads] using hr

/-- Exactly the opcodes without a format are reported unassigned (R76). -/
theorem decode_eq_unassignedOpcode_iff (op : Byte) (args : List Byte) :
    decode (op :: args) = .error (.unassignedOpcode op) ↔ formatOf op = none := by
  rw [decode]
  obtain ⟨hf, hu⟩ | ⟨hf, hr⟩ := decodeOpcode_cases op args
  · exact iff_of_true hu hf
  · refine iff_of_false (fun hu => ?_) (Option.isSome_iff_ne_none.mp hf)
    simp [hu, Reads] at hr

/-- R76 lists the opcodes without a format as ranges. -/
theorem formatOf_eq_none_iff (op : Byte) :
    formatOf op = none ↔ op = 0x00 ∨ (0x04 ≤ op ∧ op ≤ 0x0F) ∨ (0x15 ≤ op ∧ op ≤ 0x1F) ∨ (0x28 ≤ op ∧ op ≤ 0x2F) ∨
      (0x33 ≤ op ∧ op ≤ 0x3F) ∨ (0x44 ≤ op ∧ op ≤ 0x4F) ∨ 0x51 ≤ op := by
  simp only [← BitVec.toNat_inj, BitVec.le_def, BitVec.ofNat_eq_ofNat, BitVec.toNat_ofNat]
  unfold formatOf
  split
  case h_25 =>
    simp only [imp_false, true_iff] at *
    omega
  all_goals simp [*]

/-- The word of every command has its format's length (R72). -/
theorem length_encode (i : Instr) (h : i.encodable = true) : (encode i).length = wordLengthOf (encode i) := by
  cases i with
  | writeReg addr data => exact Laws.EncodedLength.writeReg addr data h
  | _ => rfl

/-- The decoder accepts no word of the wrong length, nor the empty word (R72). -/
theorem length_of_decode_ok {w : List Byte} {i : Instr} (h : decode w = .ok i) :
    w ≠ [] ∧ w.length = wordLengthOf w := by
  obtain ⟨he, rfl⟩ := encode_of_decode_ok h
  exact ⟨List.cons_ne_nil _ _, length_encode i he⟩

end Sys2Proof

namespace Sys2Proof.Machine

/-! ### How the block ends an illegal command -/

theorem State.raise_illegalCommand (s : State) : s.raise .illegalCommand = s.endedWith [] 0x06 .none :=
  s.raise_eq_endedWith .illegalCommand

/-- A word that carries no command ends IllegalCommand (R72, R76). -/
theorem step_of_decode_error {s : State} {w : List Byte} {ws : List (List Byte)} {e : DecodeError}
    (h : s.seq = .idle) (hw : s.env.words = w :: ws) (hd : decode w = .error e) :
    step s = .next (s.wordTaken.endedWith [] 0x06 .none) := by
  simp [step_word h hw, hd, State.raise_illegalCommand]

/-- The first step of GESTURE_DETECT asks for the gesture unit (R77). -/
theorem exec_gestureDetect_idle {s : State} (h : s.seq = .idle) :
    exec .gestureDetect s =
      .next (if s.cfg.gestureFeature then State.gestureResume 0 s.gestureEnter else s.raise .illegalCommand) := by
  change execGestureDetect s = _
  rw [execGestureDetect, State.inSteps_idle h]

/-- The first step of HARD_RESET asks for the reset helper (R77). -/
theorem exec_hardReset_idle {s : State} (h : s.seq = .idle) :
    exec .hardReset s =
      .next (if s.cfg.resetHelper then State.hardResetResume 0 s else s.raise .illegalCommand) := by
  change execHardReset s = _
  rw [execHardReset, State.inSteps_idle h]

/-! ### The obligations -/

/-- Settles O5: the opcodes without a format are those R76 lists, and the decoder reports just these. -/
theorem unassignedOpcodeIsIllegal : Obligations.UnassignedOpcodeIsIllegal := by
  intro op args
  rw [← formatOf_eq_none_iff, ← decode_eq_unassignedOpcode_iff op args]
  exact ⟨fun hd => ⟨hd, fun s ws h hw => step_of_decode_error h hw hd⟩, id⟩

/-- Settles O6: a word that decodes has its format's length, so any other word is rejected. -/
theorem wrongLengthIsIllegal : Obligations.WrongLengthIsIllegal := by
  intro s w ws h hw hlen
  cases hd : decode w with
  | ok i =>
    obtain ⟨hne, heq⟩ := length_of_decode_ok hd
    exact absurd heq (hlen.resolve_left hne)
  | error e => exact step_of_decode_error h hw hd

/-- Settles O52: both optional commands ask for their unit in the first step. -/
theorem absentUnitIsIllegal : Obligations.AbsentUnitIsIllegal := by
  intro s h
  constructor
  · intro hg
    simp [exec_gestureDetect_idle h, hg, State.raise_illegalCommand]
  · intro hr
    simp [exec_hardReset_idle h, hr, State.raise_illegalCommand]

end Sys2Proof.Machine
end

section
/-! PROOFS. The decoder (41_decoder.md R110 to R114, R120 to R129): the decode functions as numbers, lanes and tables,
and the commands that apply them to operands or to the bytes of one read. -/

namespace Sys2Proof.Machine

/-! ### The decode functions -/

/-- A coordinate is the low nibble of its high byte above its low byte (30_encoding.md R83). -/
theorem toNat_coord (h l : Byte) : (coord h l).toNat = (h.toNat % 16) * 256 + l.toNat := by
  have hlow : (l.setWidth 12).toNat = l.toNat := BitVec.toNat_setWidth_of_le (by decide)
  have hnibble : ((h &&& 0x0F).setWidth 12).toNat = h.toNat % 16 := by
    rw [BitVec.toNat_setWidth_of_le (by decide), BitVec.toNat_and]
    exact Nat.and_two_pow_sub_one_eq_mod h.toNat 4
  calc (coord h l).toNat
    _ = 2 ^ 8 * (h.toNat % 16) % 2 ^ 12 ||| l.toNat := by
        rw [coord, BitVec.toNat_or, BitVec.toNat_shiftLeft, hnibble, hlow, Nat.shiftLeft_eq, Nat.mul_comm]
    _ = 2 ^ 8 * (h.toNat % 16) ||| l.toNat := by rw [Nat.mod_eq_of_lt (by omega)]
    _ = (h.toNat % 16) * 256 + l.toNat := by rw [← Nat.two_pow_add_eq_or_of_lt l.isLt, Nat.mul_comm]

/-- Slot 0 of the frame is its bytes 0 to 5 (30_encoding.md R84). -/
theorem frameSlot_zero (buf : Vector Byte 12) :
    frameSlot buf 0 = #v[buf[0], buf[1], buf[2], buf[3], buf[4], buf[5]] := rfl

/-- Slot 1 of the frame is its bytes 6 to 11 (30_encoding.md R84). -/
theorem frameSlot_one (buf : Vector Byte 12) :
    frameSlot buf 1 = #v[buf[6], buf[7], buf[8], buf[9], buf[10], buf[11]] := rfl

/-- Each slot of the decoded frame is the decoded record of its own bytes (R111). -/
theorem decodeMultiTouch_eq_lanes (buf : Vector Byte 12) :
    let lane0 := decodeTouch (frameSlot buf 0)
    let lane1 := decodeTouch (frameSlot buf 1)
    decodeMultiTouch buf =
      { detected := true
        x := #v[lane0.x, lane1.x]
        y := #v[lane0.y, lane1.y]
        weight := #v[lane0.weight, lane1.weight]
        area := #v[lane0.misc, lane1.misc] } := rfl

/-- The table of R112 in the numbers of 30_encoding.md R81. -/
theorem gestureCode_decodeGesture (b : Byte) :
    gestureCode (decodeGesture b) =
      if b = 0x00 then 0 else if b = 0x10 then 1 else if b = 0x14 then 2 else if b = 0x18 then 3
      else if b = 0x1C then 4 else if b = 0x48 then 5 else if b = 0x49 then 6 else 7 := by
  unfold decodeGesture
  split
  case h_8 => simp_all [← BitVec.toNat_inj, gestureCode]
  all_goals
    rename_i h
    obtain rfl := byte_eq_of_toNat h
    rfl

/-- The whole byte is compared, and either end carries it (R113, R123, R129). -/
theorem State.endChipId_eq_endedWith (s : State) (b : Byte) :
    s.endChipId b = s.endedWith [] (if b = s.cfg.chipIdExpected then 0x00 else 0x02)
      (if b = s.cfg.chipIdExpected then .byte b else .idMismatch b) := by
  by_cases h : b = s.cfg.chipIdExpected
  · simp [State.endChipId, decodeChipId, h, State.ret_eq_endedWith]
  · simp [State.endChipId, decodeChipId, h, State.raise_eq_endedWith, CmdError.status, Status.code, CmdError.info]

/-! ### The commands from Idle -/

section Idle

variable {s : State} (hidle : s.seq = .idle)
include hidle

/-- A command of one read goes on with the bytes the device answers, after the event of the read. -/
theorem State.inOneStep_readThen_ok {addr : Byte} {n : Nat} {bytes : Vector Byte n}
    {rest : Vector Byte n → State → State} (hb : s.busReply n = .ok bytes) :
    s.inOneStep (fun s => s.readThen addr n rest) =
      .next (rest bytes (s.busDone (.busWriteRead s.cfg.devAddr [addr] n (.ok bytes.toList)))) := by
  rw [State.inOneStep_idle hidle, State.readThen, hb, State.afterRead_eq_busDone hb, BusReply.outcome]

theorem exec_decodeTouch_idle (b0 b1 b2 b3 b4 b5 : Byte) :
    exec (.decodeTouch b0 b1 b2 b3 b4 b5) s =
      .next (s.endedWith [] 0x00 (.touch (decodeTouch #v[b0, b1, b2, b3, b4, b5]))) := by
  change execDecodeTouch .. = _
  rw [execDecodeTouch, State.inOneStep_idle hidle, State.ret_eq_endedWith]

theorem exec_decodeMultitouch_idle (b0 b1 b2 b3 b4 b5 b6 b7 b8 b9 b10 b11 : Byte) :
    exec (.decodeMultitouch b0 b1 b2 b3 b4 b5 b6 b7 b8 b9 b10 b11) s =
      .next (s.endedWith [] 0x00
        (.multiTouch (decodeMultiTouch #v[b0, b1, b2, b3, b4, b5, b6, b7, b8, b9, b10, b11]))) := by
  change execDecodeMultitouch .. = _
  rw [execDecodeMultitouch, State.inOneStep_idle hidle, State.ret_eq_endedWith]

theorem exec_decodeGesture_idle (b : Byte) :
    exec (.decodeGesture b) s = .next (s.endedWith [] 0x00 (.gesture (gestureCode (decodeGesture b)))) := by
  change execDecodeGesture b s = _
  rw [execDecodeGesture, State.inOneStep_idle hidle, State.ret_eq_endedWith]

theorem exec_decodeChipId_idle (b : Byte) : exec (.decodeChipId b) s = .next (s.endChipId b) := by
  change execDecodeChipId b s = _
  rw [execDecodeChipId, State.inOneStep_idle hidle]

theorem exec_decodeDevMode_idle (b : Byte) :
    exec (.decodeDevMode b) s = .next (s.endedWith [] 0x00 (.byte (decodeDevMode s.cfg b))) := by
  change execDecodeDevMode b s = _
  rw [execDecodeDevMode, State.inOneStep_idle hidle, State.ret_eq_endedWith]

theorem exec_readGestureId_ok {b : Byte} (hb : s.busReply 1 = .ok #v[b]) :
    exec .readGestureId s =
      .next ((s.busDone (.busWriteRead s.cfg.devAddr [0x01] 1 (.ok [b]))).endedWith [] 0x00
        (.gesture (gestureCode (decodeGesture b)))) := by
  change execReadGestureId s = _
  rw [execReadGestureId, State.inOneStep_readThen_ok hidle hb, State.ret_eq_endedWith]
  rfl

theorem exec_readChipId_ok {b : Byte} (hb : s.busReply 1 = .ok #v[b]) :
    exec .readChipId s = .next ((s.busDone (.busWriteRead s.cfg.devAddr [0xA8] 1 (.ok [b]))).endChipId b) := by
  change execReadChipId s = _
  rw [execReadChipId, State.inOneStep_readThen_ok hidle hb]
  rfl

theorem exec_readDevMode_ok {b : Byte} (hb : s.busReply 1 = .ok #v[b]) :
    exec .readDevMode s =
      .next ((s.busDone (.busWriteRead s.cfg.devAddr [0x00] 1 (.ok [b]))).endedWith [] 0x00
        (.byte (decodeDevMode s.cfg b))) := by
  change execReadDevMode s = _
  rw [execReadDevMode, State.inOneStep_readThen_ok hidle hb, State.ret_eq_endedWith]
  rfl

end Idle

/-! ### The obligations -/

/-- Settles O14: the record is `decodeTouch` of the six operands, whose coordinates are `toNat_coord`. -/
theorem decodeTouchFields : Obligations.DecodeTouchFields := by
  intro s b0 b1 b2 b3 b4 b5 hidle
  exact ⟨decodeTouch #v[b0, b1, b2, b3, b4, b5], exec_decodeTouch_idle hidle b0 b1 b2 b3 b4 b5, rfl,
    toNat_coord b0 b1, toNat_coord b2 b3, rfl, rfl⟩

/-- Settles O16: the frame decodes lane by lane. -/
theorem decodeMultitouchLanes : Obligations.DecodeMultitouchLanes := by
  intro s b0 b1 b2 b3 b4 b5 b6 b7 b8 b9 b10 b11 hidle
  rw [exec_decodeMultitouch_idle hidle, decodeMultiTouch_eq_lanes, frameSlot_zero, frameSlot_one]
  rfl

/-- Settles O17: both commands answer the code of `decodeGesture`, which is the table. -/
theorem gestureCodesDecode : Obligations.GestureCodesDecode := by
  intro s b hidle
  have hcode := gestureCode_decodeGesture b
  exact ⟨hcode ▸ exec_decodeGesture_idle hidle b, fun hb => hcode ▸ exec_readGestureId_ok hidle hb⟩

/-- Settles O18: both commands end as `State.endChipId` does, and a read leaves the configuration as it is. -/
theorem chipIdIsChecked : Obligations.ChipIdIsChecked := by
  intro s b hidle
  constructor
  · rw [exec_decodeChipId_idle hidle, State.endChipId_eq_endedWith]
  · intro hb
    rw [exec_readChipId_ok hidle hb, State.endChipId_eq_endedWith, State.busDone_cfg]

/-- Settles O19: both commands answer `decodeDevMode`, which is the two ANDs. -/
theorem devModeIsMaskedTwice : Obligations.DevModeIsMaskedTwice := by
  intro s b hidle
  exact ⟨exec_decodeDevMode_idle hidle b, fun hb => exec_readDevMode_ok hidle hb⟩

end Sys2Proof.Machine
end

section
/-! PROOFS. The gesture classifier (43_gesture.md R165): its branches as rules over the absolute values of the deltas. -/

namespace Sys2Proof.Machine

section Classify

variable {dx dy : Int}

/-- A delta is past the bound 100, which is exclusive. -/
theorem gestureBound_lt_natAbs_iff {d : Int} : Config.gestureBound < d.natAbs ↔ 100 < |d| := by
  rw [Config.gestureBound, Int.abs_eq_natAbs]
  omega

/-- Step (1) of R165: a delta past the bound. -/
theorem classify_of_bound_lt_abs (h : 100 < |dx| ∨ 100 < |dy|) : classify dx dy = .fault := by
  rw [classify, if_pos (h.imp gestureBound_lt_natAbs_iff.mpr gestureBound_lt_natAbs_iff.mpr)]

/-- Inside the bound the classifier goes on to steps (2) to (4) of R165. -/
theorem classify_of_abs_le_bound (hx : |dx| ≤ 100) (hy : |dy| ≤ 100) :
    classify dx dy =
      if |dy| < |dx| then (if 0 < dx then .right else .left)
      else if |dx| < |dy| then (if 0 < dy then .up else .left)
      else .fault := by
  have hbound : ¬ (Config.gestureBound < dx.natAbs ∨ Config.gestureBound < dy.natAbs) := by
    simp only [gestureBound_lt_natAbs_iff, not_or, not_lt]
    exact ⟨hx, hy⟩
  rw [classify, if_neg hbound]
  simp only [gt_iff_lt, Int.abs_eq_natAbs, Nat.cast_lt]

/-- Step (4) of R165, and step (1) where the equal magnitudes lie past the bound. -/
theorem classify_of_abs_eq (h : |dx| = |dy|) : classify dx dy = .fault := by
  by_cases hx : |dx| ≤ 100
  · rw [classify_of_abs_le_bound hx (h ▸ hx), if_neg h.not_gt, if_neg h.not_lt]
  · exact classify_of_bound_lt_abs (.inl (not_le.mp hx))

end Classify

/-- Settles O43: one case per step of R165; magnitudes are equal just where `dx = dy` or `dx = -dy`. -/
theorem classifierRules : Obligations.ClassifierRules := by
  intro dx dy
  refine ⟨classify_of_bound_lt_abs, fun ⟨hx, hy⟩ => ⟨?right, ?leftward, ?up, ?downward, ?equal⟩⟩
  case equal => exact fun h => classify_of_abs_eq (abs_eq_abs.mpr h)
  all_goals
    intro hlarger hsign
    rw [classify_of_abs_le_bound hx hy]
  case right => rw [if_pos hlarger, if_pos hsign]
  case leftward => rw [if_pos hlarger, if_neg hsign.not_gt]
  case up => rw [if_neg hlarger.not_gt, if_pos hlarger, if_pos hsign]
  case downward => rw [if_neg hlarger.not_gt, if_pos hlarger, if_neg hsign.not_gt]

end Sys2Proof.Machine
end

section
/-! PROOFS. Construction (70_reset_and_hazards.md R233): the valid arguments are just those some configuration was built
from, and the check gives that configuration back. -/

namespace Sys2Proof

/-- The constraints of R233; the one on the discard policy stands in its type. -/
def ConfigArgs.Valid (a : ConfigArgs) : Prop :=
  a.devAddr < 0x80 ∧ a.gestureInitBase ≤ 0xFA ∧ ∀ n, a.coordPollBudget = some n → 1 ≤ n

/-- The construction arguments that name a configuration: its fields without the proofs of their bounds. -/
def Config.args (c : Config) : ConfigArgs where
  devAddr := c.devAddr.toNat
  maxWidth := c.maxWidth
  maxHeight := c.maxHeight
  chipIdExpected := c.chipIdExpected
  devModeBitMask := c.devModeBitMask
  devModeBitPosition := c.devModeBitPosition
  devModeFactory := c.devModeFactory
  devModeWorking := c.devModeWorking
  gestureInitBase := c.gestureInitBase.val
  tdCountMask := c.tdCountMask
  gestureFeature := c.gestureFeature
  resetHelper := c.resetHelper
  sampleDiscardPolicy := c.sampleDiscardPolicy
  coordPollBudget := c.coordPollBudget.map Subtype.val

end Sys2Proof

namespace Sys2Proof.Machine

/-- Every configuration passes the check, with each field as it was given. -/
theorem checkConfig_args (c : Config) : checkConfig c.args = some c := by
  have haddr : c.args.devAddr < 0x80 := c.devAddr.isLt
  have hbase : c.args.gestureInitBase ≤ 0xFA := Nat.le_of_lt_succ c.gestureInitBase.isLt
  rw [checkConfig, dif_pos haddr, dif_pos hbase]
  obtain ⟨_, _, _, _, _, _, _, _, _, _, _, _, _, budget⟩ := c
  cases budget with
  | none => simp [Config.args]
  | some n => simp [Config.args, n.property]

/-- The check passes only arguments that meet R233. -/
theorem valid_of_checkConfig_eq_some {a : ConfigArgs} {c : Config} (h : checkConfig a = some c) : a.Valid := by
  unfold checkConfig at h
  split at h
  case isFalse => contradiction
  case isTrue haddr =>
    split at h
    case isFalse => contradiction
    case isTrue hbase =>
      refine ⟨haddr, hbase, fun n hn => ?budget⟩
      by_contra hzero
      simp [hn, hzero] at h

/-- Arguments that meet R233 name a configuration. -/
theorem exists_args_eq_of_valid {a : ConfigArgs} (h : a.Valid) : ∃ c : Config, c.args = a := by
  obtain ⟨addr, width, height, chip, mask, position, factory, working, base, count, gesture, helper, policy, budget⟩ := a
  obtain ⟨haddr, hbase, hbudget⟩ := h
  exact ⟨⟨.ofNatLT addr haddr, width, height, chip, mask, position, factory, working, ⟨base, Nat.lt_succ_of_le hbase⟩,
    count, gesture, helper, policy, budget.attachWith _ hbudget⟩, by simp [Config.args]⟩

theorem construct_args (c : Config) : construct c.args = .next (State.ofConfig c) := by
  rw [construct, checkConfig_args]

theorem construct_of_not_valid {a : ConfigArgs} (h : ¬ a.Valid) : construct a = .refused .invalidConfig := by
  have hnone : checkConfig a = none :=
    Option.eq_none_iff_forall_ne_some.mpr fun _ hsome => h (valid_of_checkConfig_eq_some hsome)
  rw [construct, hnone]

/-- Settles O10: valid arguments are those of some configuration, and construction gives that configuration back. -/
theorem constructionChecksConfig : Obligations.ConstructionChecksConfig := by
  refine fun a => ⟨fun hvalid => ?accepted, construct_of_not_valid⟩
  obtain ⟨c, rfl⟩ := exists_args_eq_of_valid hvalid
  exact ⟨c, construct_args c, rfl, rfl, rfl, rfl, rfl, rfl, rfl, rfl, rfl, rfl, rfl, rfl, rfl, rfl⟩

end Sys2Proof.Machine
end

section
/-! PROOFS. Encoding (30_encoding.md part A): the decoder and the encoder are inverse to each other, and the decoder
accepts just the words whose opcode is assigned and whose length is their format's. -/

namespace Sys2Proof

/-! ### Decoding an encoded command -/

/-- The byte count of format W, read back, is the number of data bytes. -/
theorem operandsW_of_length_lt (op : Byte) (f : Byte → List Byte → Instr) (addr : Byte) {data : List Byte}
    (h : data.length < 256) : operandsW op f (addr :: BitVec.ofNat 8 data.length :: data) = .ok (f addr data) := by
  have hcount : data.length = (BitVec.ofNat 8 data.length).toNat := by
    rw [BitVec.toNat_ofNat, Nat.mod_eq_of_lt h]
  rw [operandsW, if_pos hcount]

/-- Only format W asks that an operand fit its field: its data are counted in one byte. -/
theorem decode_encode {i : Instr} (h : i.encodable = true) : decode (encode i) = .ok i := by
  cases i with
  | writeReg addr data => exact operandsW_of_length_lt 0x02 .writeReg addr (of_decide_eq_true h)
  | _ => rfl

/-! ### A reader accepts operands of its format's length -/

section Readers

variable {op : Byte} {l : List Byte}

theorem operandsN_accepts {i : Instr} (h : l.length = 0) : ∃ j, operandsN op i l = .ok j := by
  obtain rfl := List.length_eq_zero_iff.mp h
  exact ⟨_, rfl⟩

theorem operandsOne_accepts {f : Byte → Instr} (h : l.length = 1) : ∃ j, operandsOne op f l = .ok j := by
  obtain ⟨b, rfl⟩ := List.length_eq_one_iff.mp h
  exact ⟨_, rfl⟩

theorem operandsA_accepts {f : Byte → Byte → Instr} (h : l.length = 2) : ∃ j, operandsA op f l = .ok j := by
  obtain ⟨addr, len, rfl⟩ := List.length_eq_two.mp h
  exact ⟨_, rfl⟩

/-- In format W the operands are the address, the byte count, and as many bytes as it says. -/
theorem operandsW_accepts {f : Byte → List Byte → Instr} (h : l.length = 2 + (l[1]?.getD 0).toNat) :
    ∃ j, operandsW op f l = .ok j := by
  match l with
  | addr :: len :: data =>
    have hcount : data.length = len.toNat := by
      simp only [List.length_cons, List.getElem?_cons_succ, List.getElem?_cons_zero, Option.getD_some] at h
      omega
    exact ⟨f addr data, by rw [operandsW, if_pos hcount]⟩
  | [] | [_] => simp at h

theorem operandsB6_accepts {f : Byte → Byte → Byte → Byte → Byte → Byte → Instr} (h : l.length = 6) :
    ∃ j, operandsB6 op f l = .ok j := by
  match l, h with
  | [_, _, _, _, _, _], _ => exact ⟨_, rfl⟩

theorem operandsB12_accepts
    {f : Byte → Byte → Byte → Byte → Byte → Byte → Byte → Byte → Byte → Byte → Byte → Byte → Instr}
    (h : l.length = 12) : ∃ j, operandsB12 op f l = .ok j := by
  match l, h with
  | [_, _, _, _, _, _, _, _, _, _, _, _], _ => exact ⟨_, rfl⟩

end Readers

/-- A word of an assigned opcode and of its format's length decodes. -/
theorem decode_of_length_eq {op : Byte} {args : List Byte} {f : Format} (hf : formatOf op = some f)
    (hlen : args.length + 1 = f.wordLength (args[1]?.getD 0).toNat) : ∃ i, decode (op :: args) = .ok i := by
  rw [decode]
  unfold decodeOpcode
  split
  case h_25 => simp [formatOf, *] at hf
  all_goals
    rename_i hop
    obtain rfl := byte_eq_of_toNat hop
    obtain rfl := Option.some.inj hf
    rw [Format.wordLength] at hlen
  -- formats W, A and B12, then B6, then R, S and B1, then N
  case h_2 => exact operandsW_accepts (by omega)
  case h_3 => exact operandsA_accepts (by omega)
  case h_5 => exact operandsB12_accepts (by omega)
  case h_4 | h_21 => exact operandsB6_accepts (by omega)
  case h_1 | h_6 | h_7 | h_8 | h_12 => exact operandsOne_accepts (by omega)
  all_goals exact operandsN_accepts (by omega)

/-- The opcode of a word that decodes is assigned. -/
theorem formatOf_isSome_of_decode_ok {op : Byte} {args : List Byte} {i : Instr} (h : decode (op :: args) = .ok i) :
    (formatOf op).isSome = true := by
  obtain ⟨-, hu⟩ | ⟨hf, -⟩ := decodeOpcode_cases op args
  · rw [decode, hu] at h
    contradiction
  · exact hf

/-! ### The obligations -/

/-- Settles O1. -/
theorem decodeOfEncode : Obligations.DecodeOfEncode :=
  fun _ h => decode_encode h

/-- Settles O2: every operand reader gives back the whole word. -/
theorem encodeOfDecode : Obligations.EncodeOfDecode :=
  fun _ _ h => encode_of_decode_ok h

/-- Settles O3: a word that decodes is the word of a command, whose length is its format's; and each reader accepts
every list of its format's length. -/
theorem decodeAcceptsExactly : Obligations.DecodeAcceptsExactly := by
  intro w
  constructor
  · rintro ⟨i, h⟩
    obtain ⟨hne, hlen⟩ := length_of_decode_ok h
    obtain ⟨op, args, rfl⟩ := List.exists_cons_of_ne_nil hne
    exact ⟨op, args, rfl, formatOf_isSome_of_decode_ok h, hlen⟩
  · rintro ⟨op, args, rfl, hsome, hlen⟩
    obtain ⟨f, hf⟩ := Option.isSome_iff_exists.mp hsome
    rw [List.length_cons, wordLengthOf, hf] at hlen
    exact decode_of_length_eq hf hlen

/-- Settles O4: the words are closed terms, and the decoder is evaluated on each. -/
theorem decodeSpecWords : Obligations.DecodeSpecWords := by
  unfold Obligations.DecodeSpecWords
  decide

end Sys2Proof
end

section
/-! PROOFS. The commands of at most one transfer, from Idle: the register transport (40_transport.md), the reads that
decode (41_decoder.md section 3, 42_calibration.md R145) and the GestureInit cache (44_platform.md). Their meanings are
one read, one write or no transfer, and each of these ends is said once. -/

namespace Sys2Proof.Machine

/-! ### The bus primitives, by the device's answer -/

section Primitives

variable {s : State} {addr : Byte}

theorem State.readThen_ok {n : Nat} {b : Vector Byte n} {rest : Vector Byte n → State → State}
    (hb : s.busReply n = .ok b) :
    s.readThen addr n rest = rest b (s.busDone (.busWriteRead s.cfg.devAddr [addr] n (.ok b.toList))) := by
  rw [State.readThen, hb, State.afterRead_eq_busDone hb, BusReply.outcome]

theorem State.readThen_err {n : Nat} {d : BusErrDetail} {rest : Vector Byte n → State → State}
    (hd : s.busReply n = .err d) :
    s.readThen addr n rest =
      (s.busDone (.busWriteRead s.cfg.devAddr [addr] n (.err d))).endedWith [] 0x01 (.busError d) := by
  rw [State.readThen, hd, State.afterRead_eq_busDone hd]
  exact State.raise_eq_endedWith _ _

theorem State.writeThen_ok {data : List Byte} {rest : State → State} (h : s.writeReply = .ok) :
    s.writeThen addr data rest = rest (s.busDone (.busWrite s.cfg.devAddr (addr :: data) .ok)) := by
  rw [State.writeThen, h, State.afterWrite_eq_busDone h]

theorem State.writeThen_err {data : List Byte} {rest : State → State} {d : BusErrDetail} (h : s.writeReply = .err d) :
    s.writeThen addr data rest =
      (s.busDone (.busWrite s.cfg.devAddr (addr :: data) (.err d))).endedWith [] 0x01 (.busError d) := by
  rw [State.writeThen, h, State.afterWrite_eq_busDone h]
  exact State.raise_eq_endedWith _ _

end Primitives

/-! ### The meaning of each command -/

section Meanings

variable (s : State)

theorem exec_readReg (addr : Byte) :
    exec (.readReg addr) s = s.inOneStep fun s => s.readThen addr 1 fun b t => t.ret (.bytes b.toList) := rfl

theorem exec_writeReg (addr : Byte) (data : List Byte) :
    exec (.writeReg addr data) s = s.inOneStep fun s =>
      if transferInRange addr data.length then s.writeThen addr data fun t => t.ret (.bytes [])
      else s.raise .illegalCommand := rfl

theorem exec_readAfterWrite (addr len : Byte) :
    exec (.readAfterWrite addr len) s = s.inOneStep fun s =>
      if transferInRange addr len.toNat then s.readThen addr len.toNat fun b t => t.ret (.bytes b.toList)
      else s.raise .illegalCommand := rfl

theorem exec_decodeTouch (b0 b1 b2 b3 b4 b5 : Byte) :
    exec (.decodeTouch b0 b1 b2 b3 b4 b5) s =
      s.inOneStep fun s => s.ret (.touch (decodeTouch #v[b0, b1, b2, b3, b4, b5])) := rfl

theorem exec_decodeMultitouch (b0 b1 b2 b3 b4 b5 b6 b7 b8 b9 b10 b11 : Byte) :
    exec (.decodeMultitouch b0 b1 b2 b3 b4 b5 b6 b7 b8 b9 b10 b11) s = s.inOneStep fun s =>
      s.ret (.multiTouch (decodeMultiTouch #v[b0, b1, b2, b3, b4, b5, b6, b7, b8, b9, b10, b11])) := rfl

theorem exec_decodeGesture (b : Byte) :
    exec (.decodeGesture b) s = s.inOneStep fun s => s.ret (.gesture (gestureCode (decodeGesture b))) := rfl

theorem exec_decodeChipId (b : Byte) : exec (.decodeChipId b) s = s.inOneStep fun s => s.endChipId b := rfl

theorem exec_decodeDevMode (b : Byte) :
    exec (.decodeDevMode b) s = s.inOneStep fun s => s.ret (.byte (decodeDevMode s.cfg b)) := rfl

theorem exec_readDevMode :
    exec .readDevMode s =
      s.inOneStep fun s => s.readThen 0x00 1 fun b t => t.ret (.byte (decodeDevMode t.cfg b[0])) := rfl

theorem exec_readGestureId :
    exec .readGestureId s =
      s.inOneStep fun s => s.readThen 0x01 1 fun b t => t.ret (.gesture (gestureCode (decodeGesture b[0]))) := rfl

theorem exec_detectTouch :
    exec .detectTouch s =
      s.inOneStep fun s => s.readThen 0x02 1 fun b t => t.ret (.count (clampCount t.cfg b[0])) := rfl

theorem exec_readTouch (slot : Byte) :
    exec (.readTouch slot) s = s.inOneStep fun s =>
      if slotInRange slot then s.readThen (slotBase slot) 6 fun b t => t.ret (.touch (decodeTouch b))
      else s.raise .illegalCommand := rfl

theorem exec_readMultitouch :
    exec .readMultitouch s =
      s.inOneStep fun s => s.readThen 0x03 12 fun b t => t.ret (.multiTouch (decodeMultiTouch b)) := rfl

theorem exec_readChipId :
    exec .readChipId s = s.inOneStep fun s => s.readThen 0xA8 1 fun b t => t.endChipId b[0] := rfl

theorem exec_readFirmwareId :
    exec .readFirmwareId s = s.inOneStep fun s => s.readThen 0xA6 1 fun b t => t.ret (.byte b[0]) := rfl

theorem exec_readLibVersion :
    exec .readLibVersion s = s.inOneStep fun s => s.readThen 0xA1 2 fun b t => t.ret (.bytes b.toList) := rfl

theorem exec_giRead :
    exec .giRead s = s.inOneStep fun s =>
      s.readThen (regGestureInit s.cfg) 6 fun b t => (t.loadGi b).ret (.gestureInit (gestureInitOf b)) := rfl

theorem exec_giSet (b0 b1 b2 b3 b4 b5 : Byte) :
    exec (.giSet b0 b1 b2 b3 b4 b5) s =
      s.inOneStep fun s => (s.loadGi #v[b0, b1, b2, b3, b4, b5]).ret (.bytes []) := rfl

theorem exec_giWrite :
    exec .giWrite s = s.inOneStep fun s =>
      if s.giValid then s.writeThen (regGestureInit s.cfg) s.giCache.toList fun t => t.ret (.bytes [])
      else s.raise .cacheEmpty := rfl

theorem exec_getCapabilities :
    exec .getCapabilities s = s.inOneStep fun s => s.ret (.capabilities s.cap) := rfl

theorem exec_calibrate : exec .calibrate s = s.inSteps .calibrate (State.calResume 0) State.calResume := rfl

theorem exec_getCoordinates :
    exec .getCoordinates s =
      s.inSteps .getCoordinates (fun s => State.coordResume 0 s.coordEnter) State.coordResume := rfl

theorem exec_gestureDetect :
    exec .gestureDetect s = s.inSteps .gestureDetect
      (fun s => if s.cfg.gestureFeature then State.gestureResume 0 s.gestureEnter else s.raise .illegalCommand)
      State.gestureResume := rfl

theorem exec_hardReset :
    exec .hardReset s = s.inSteps .hardReset
      (fun s => if s.cfg.resetHelper then State.hardResetResume 0 s else s.raise .illegalCommand)
      State.hardResetResume := rfl

end Meanings

/-! ### The two shapes of a command -/

/-- A command makes at most one transfer, in one step, or several, one a step. -/
theorem exec_shape (i : Instr) :
    (∃ body, ∀ s, exec i s = s.inOneStep body) ∨ (∃ start resume, ∀ s, exec i s = s.inSteps i start resume) := by
  cases i
  case calibrate | getCoordinates | gestureDetect | hardReset => exact .inr ⟨_, _, fun _ => rfl⟩
  all_goals exact .inl ⟨_, fun _ => rfl⟩

/-- Two commands never overlap (log entry 10). -/
theorem exec_portBusy {s : State} {i cmd : Instr} {k : Nat} (h : s.seq = .busy cmd k) (hne : i ≠ cmd) :
    exec i s = .fault .portBusy := by
  obtain ⟨body, hi⟩ | ⟨start, resume, hi⟩ := exec_shape i
  · simp [hi, State.inOneStep, h]
  · simp [hi, State.inSteps, h, hne.symm]

section Idle

variable {s : State} {i : Instr} (hidle : s.seq = .idle)
include hidle

theorem exec_of_inOneStep {body : State → State} (hi : exec i s = s.inOneStep body) : exec i s = .next (body s) :=
  hi.trans (State.inOneStep_idle hidle)

section OneRead

variable {addr : State → Byte} {n : Nat} {rest : Vector Byte n → State → State}
  (hi : exec i s = s.inOneStep fun s => s.readThen (addr s) n rest)
include hi

theorem exec_of_read_ok {b : Vector Byte n} (hb : s.busReply n = .ok b) :
    exec i s = .next (rest b (s.busDone (.busWriteRead s.cfg.devAddr [addr s] n (.ok b.toList)))) := by
  rw [exec_of_inOneStep hidle hi, State.readThen_ok hb]

/-- A failed read ends the command with the transport's detail (40_transport.md R103). -/
theorem exec_of_read_err {d : BusErrDetail} (hd : s.busReply n = .err d) :
    exec i s = .next
      ((s.busDone (.busWriteRead s.cfg.devAddr [addr s] n (.err d))).endedWith [] 0x01 (.busError d)) := by
  rw [exec_of_inOneStep hidle hi, State.readThen_err hd]

end OneRead

end Idle

/-! ### Operand checks -/

theorem transferInRange_iff {addr : Byte} {len : Nat} :
    transferInRange addr len = true ↔ 1 ≤ len ∧ len ≤ 255 ∧ addr.toNat + len ≤ 256 := by
  simp [transferInRange, and_assoc]

theorem slotInRange_iff {slot : Byte} : slotInRange slot = true ↔ slot.toNat < 2 := by
  simp [slotInRange, Config.maxTouch]

/-! ### Decoding without the upper nibbles, and the device-mode masks -/

/-- The upper nibble of the high byte reaches no coordinate (41_decoder.md R110). -/
theorem coord_congr {h h' : Byte} (l : Byte) (hlow : h &&& 0x0F = h' &&& 0x0F) : coord h l = coord h' l := by
  rw [coord, coord, hlow]

/-- The two ANDs are one with the AND of the masks (41_decoder.md R115 (a)). -/
theorem decodeDevMode_eq_and (c : Config) (b : Byte) :
    decodeDevMode c b = b &&& (c.devModeBitMask &&& c.devModeBitPosition) :=
  BitVec.and_assoc b c.devModeBitMask c.devModeBitPosition

/-- No bit outside both masks (41_decoder.md R115 (c)). -/
theorem decodeDevMode_and_not (c : Config) (b : Byte) :
    decodeDevMode c b &&& ~~~(c.devModeBitMask &&& c.devModeBitPosition) = 0 := by
  rw [decodeDevMode_eq_and, BitVec.and_assoc, BitVec.and_not_self]
  exact BitVec.and_zero

/-! ### The obligations: the step and reset -/

/-- Settles O7. -/
theorem stepRunsDecodedCommand : Obligations.StepRunsDecodedCommand := by
  intro s w ws i hidle hw hd
  rw [step_word hidle hw, hd]

/-- Settles O8. -/
theorem stepResumesOrWaits : Obligations.StepResumesOrWaits :=
  fun _ => ⟨fun _ _ h => ⟨step_busy h, fun _ hne => exec_portBusy h hne⟩, step_waits⟩

/-- Settles O9: each register is a field of `State.ofConfig`. -/
theorem resetValues : Obligations.ResetValues :=
  fun _ => ⟨rfl, rfl, rfl, rfl, rfl, rfl, rfl, rfl, rfl, rfl, rfl⟩

/-! ### The obligations: register transport -/

/-- Settles O11. -/
theorem readRegReadsOneRegister : Obligations.ReadRegReadsOneRegister := by
  intro s addr hidle
  refine ⟨fun b hb => ?_, fun d hd => exec_of_read_err hidle (exec_readReg s addr) hd⟩
  rw [exec_of_read_ok hidle (exec_readReg s addr) hb, State.ret_eq_endedWith]
  rfl

/-- Settles O12. -/
theorem writeRegWritesInOneTransaction : Obligations.WriteRegWritesInOneTransaction := by
  intro s addr data hidle
  rw [exec_of_inOneStep hidle (exec_writeReg s addr data), ← transferInRange_iff]
  constructor
  · intro hrange
    rw [if_pos hrange]
    exact ⟨fun hok => by rw [State.writeThen_ok hok, State.ret_eq_endedWith],
      fun d herr => by rw [State.writeThen_err herr]⟩
  · intro hrange
    rw [if_neg hrange, State.raise_illegalCommand]

/-- Settles O13: the length operand is a byte, so the check's upper bound 255 always holds. -/
theorem readAfterWriteReadsRange : Obligations.ReadAfterWriteReadsRange := by
  intro s addr len hidle
  have hrange : 1 ≤ len.toNat ∧ addr.toNat + len.toNat ≤ 256 ↔ transferInRange addr len.toNat = true := by
    rw [transferInRange_iff]
    omega
  rw [exec_of_inOneStep hidle (exec_readAfterWrite s addr len), hrange]
  constructor
  · intro h
    rw [if_pos h]
    exact ⟨fun b hb => by rw [State.readThen_ok hb, State.ret_eq_endedWith],
      fun d hd => by rw [State.readThen_err hd]⟩
  · intro h
    rw [if_neg h, State.raise_illegalCommand]

/-! ### The obligations: the decoder and the reads that decode -/

/-- Settles O15. -/
theorem upperNibblesDoNotMatter : Obligations.UpperNibblesDoNotMatter := by
  intro s b0 b0' b1 b2 b2' b3 b4 b5 h0 h2
  have htouch : decodeTouch #v[b0, b1, b2, b3, b4, b5] = decodeTouch #v[b0', b1, b2', b3, b4, b5] :=
    congrArg₂ (fun x y => TouchState.mk true x y b4 b5) (coord_congr b1 h0) (coord_congr b3 h2)
  rw [exec_decodeTouch, exec_decodeTouch, htouch]

/-- Settles O20. -/
theorem devModeConsequences : Obligations.DevModeConsequences := by
  intro c b
  refine ⟨decodeDevMode_eq_and c b, fun hdisjoint => ?_, decodeDevMode_and_not c b⟩
  rw [decodeDevMode_eq_and, hdisjoint]
  exact BitVec.and_zero

/-- Settles O21. -/
theorem readTouchReadsSlot : Obligations.ReadTouchReadsSlot := by
  intro s slot hidle
  rw [exec_of_inOneStep hidle (exec_readTouch s slot)]
  constructor
  · intro base hbase
    obtain ⟨hrange, rfl⟩ : slotInRange slot = true ∧ slotBase slot = base := by
      obtain ⟨rfl, rfl⟩ | ⟨rfl, rfl⟩ := hbase <;> decide
    rw [if_pos hrange]
    exact ⟨fun r hr => by rw [State.readThen_ok hr, State.ret_eq_endedWith],
      fun d hd => by rw [State.readThen_err hd]⟩
  · intro hslot
    rw [if_neg (mt slotInRange_iff.mp (Nat.not_lt.mpr hslot)), State.raise_illegalCommand]

/-- Settles O22. -/
theorem readMultitouchReadsFrame : Obligations.ReadMultitouchReadsFrame := by
  intro s r hidle hr
  rw [exec_of_read_ok hidle (exec_readMultitouch s) hr, State.ret_eq_endedWith, decodeMultiTouch_eq_lanes,
    frameSlot_zero, frameSlot_one]
  rfl

/-- Settles O23. -/
theorem versionsAreRaw : Obligations.VersionsAreRaw := by
  intro s hidle
  constructor
  · intro b hb
    rw [exec_of_read_ok hidle (exec_readFirmwareId s) hb, State.ret_eq_endedWith]
    rfl
  · intro b0 b1 hb
    rw [exec_of_read_ok hidle (exec_readLibVersion s) hb, State.ret_eq_endedWith]
    rfl

/-- Settles O24: the payload is `clampCount` of the byte. -/
theorem detectTouchClamps : Obligations.DetectTouchClamps := by
  intro s b hidle hb
  rw [exec_of_read_ok hidle (exec_detectTouch s) hb, State.ret_eq_endedWith]
  rfl

/-- Settles O25: each of the eight commands is one read. -/
theorem busErrorEndsReads : Obligations.BusErrorEndsReads := by
  intro s i addr n d hidle hmem hd
  simp only [List.mem_cons, List.not_mem_nil, or_false, Prod.mk.injEq] at hmem
  obtain ⟨rfl, rfl, rfl⟩ | ⟨rfl, rfl, rfl⟩ | ⟨rfl, rfl, rfl⟩ | ⟨rfl, rfl, rfl⟩ | ⟨rfl, rfl, rfl⟩ | ⟨rfl, rfl, rfl⟩ |
    ⟨rfl, rfl, rfl⟩ | ⟨rfl, rfl, rfl⟩ := hmem
  exacts [exec_of_read_err hidle (exec_readDevMode s) hd, exec_of_read_err hidle (exec_readGestureId s) hd,
    exec_of_read_err hidle (exec_detectTouch s) hd, exec_of_read_err hidle (exec_readMultitouch s) hd,
    exec_of_read_err hidle (exec_readChipId s) hd, exec_of_read_err hidle (exec_readFirmwareId s) hd,
    exec_of_read_err hidle (exec_readLibVersion s) hd, exec_of_read_err hidle (exec_giRead s) hd]

/-! ### The obligations: the GestureInit cache and the capability descriptor -/

/-- Settles O45. -/
theorem giReadLoadsCache : Obligations.GiReadLoadsCache := by
  intro s hidle
  refine ⟨fun b hb => ?_, fun d hd => exec_of_read_err hidle (exec_giRead s) hd⟩
  rw [exec_of_read_ok hidle (exec_giRead s) hb, State.ret_eq_endedWith]
  rfl

/-- Settles O46. -/
theorem giSetLoadsCache : Obligations.GiSetLoadsCache := by
  intro s b0 b1 b2 b3 b4 b5 hidle
  rw [exec_of_inOneStep hidle (exec_giSet s b0 b1 b2 b3 b4 b5), State.ret_eq_endedWith]
  rfl

/-- Settles O47. -/
theorem giWritePushesCache : Obligations.GiWritePushesCache := by
  intro s hidle
  rw [exec_of_inOneStep hidle (exec_giWrite s)]
  refine ⟨fun hempty => ?empty, fun hvalid hok => ?pushed, fun d hvalid herr => ?failed⟩
  case empty =>
    rw [hempty, if_neg Bool.false_ne_true, State.raise_eq_endedWith]
    rfl
  case pushed =>
    rw [if_pos hvalid, State.writeThen_ok hok, State.ret_eq_endedWith]
    rfl
  case failed =>
    rw [if_pos hvalid, State.writeThen_err herr]
    rfl

/-- Settles O49. -/
theorem getCapabilitiesReturnsRom : Obligations.GetCapabilitiesReturnsRom := by
  intro s hidle hcap
  rw [exec_of_inOneStep hidle (exec_getCapabilities s), State.ret_eq_endedWith, hcap]
  rfl

end Sys2Proof.Machine
end

section
/-! PROOFS. What a step of any command can do, said once: the commands of at most one transfer as one relation, the four
commands of several transfers by the transfer they make next; and from it which state a step writes (10_state.md
section 8), what it appends to the history (10_state.md R22, R32) and which registers it reaches (20_memory.md R51,
R52, R60). -/

namespace Sys2Proof.Machine

/-! ### What a step is made of -/

/-- `s` once command `i` has made one transfer that it may make: a bus transaction that is one of its accesses, a delay
of the three there are (60_exceptions.md R216), or a pin write. -/
inductive Transfer (i : Instr) (s : State) : State → Prop
  | read {addr : Byte} {n : Nat} (hown : .read addr n ∈ Access.allowed s.cfg i) (hspace : inSpace addr n = true) :
    Transfer i s (s.afterRead addr n)
  | write {addr : Byte} {data : List Byte} (hown : .write addr data.length ∈ Access.allowed s.cfg i)
    (hspace : inSpace addr data.length = true) : Transfer i s (s.afterWrite addr data)
  | delay {ms : Nat} (hms : ms = 300 ∨ ms = 200 ∨ ms = 10) : Transfer i s (s.delay ms)
  | pin (l : Level) : Transfer i s (s.afterPin l)

/-- The commands that load the GestureInit cache (20_memory.md R67). -/
def loadsCache : Instr → Bool
  | .giRead | .giSet _ _ _ _ _ _ => true
  | _ => false

/-- The registers that GESTURE_DETECT writes while it runs (10_state.md R28, R29; log entry 9). -/
structure GestureRegs where
  recordDue : Bool
  coordPolls : Nat
  smpX : Vector Coord 19
  smpY : Vector Coord 19
  smpOk : BitVec 19
  smpN : BitVec 5
  smpIter : BitVec 5

/-- `s` with these values in those registers. -/
def State.withGesture (s : State) (g : GestureRegs) : State :=
  { s with recordDue := g.recordDue, coordPolls := g.coordPolls, smpX := g.smpX, smpY := g.smpY, smpOk := g.smpOk,
           smpN := g.smpN, smpIter := g.smpIter }

/-- The registers once a sample is stored in `entry` for the iteration `i` (43_gesture.md R160). -/
def GestureRegs.putSample (g : GestureRegs) (entry i : Nat) (x y : Coord) : GestureRegs :=
  { g with smpX := g.smpX.setIfInBounds entry x, smpY := g.smpY.setIfInBounds entry y,
           smpOk := g.smpOk ||| (1#19 <<< i), smpN := g.smpN + 1 }

theorem State.putSample_withGesture (s : State) (g : GestureRegs) (i : Nat) (x y : Coord) :
    (s.withGesture g).putSample i x y =
      s.withGesture (g.putSample ((s.withGesture g).sampleEntry i) i x y) := rfl

/-- `s` once command `i` has written registers of its own (10_state.md section 8); GESTURE_DETECT may discard a sample
with them. -/
inductive Writes (i : Instr) (s : State) : State → Prop
  | nothing : Writes i s s
  | cal (hi : i = .calibrate) (state : BitVec 3) (attempt : BitVec 7) :
    Writes i s { s with calState := state, calAttempt := attempt }
  | coord (hi : i = .getCoordinates) (due : Bool) (polls : Nat) :
    Writes i s { s with recordDue := due, coordPolls := polls }
  | window (hi : i = .gestureDetect) (g : GestureRegs) (discards : List Event)
    (hdiscards : ∀ e ∈ discards, ∃ m ≤ s.gestureIteration, e = .sampleDiscarded m) :
    Writes i s { s.withGesture g with hist := s.hist ++ discards }
  | cache (hi : loadsCache i = true) (bytes : Vector Byte 6) : Writes i s (s.loadGi bytes)

/-- How many transfers the running command has completed (10_state.md R22). -/
def State.position (s : State) : Nat :=
  match s.seq with
  | .idle => 0
  | .busy _ k => k

theorem State.position_idle {s : State} (h : s.seq = .idle) : s.position = 0 := by
  rw [State.position, h]

theorem State.position_busy {s : State} {c : Instr} {k : Nat} (h : s.seq = .busy c k) : s.position = k := by
  rw [State.position, h]

/-- One step of command `i`: a transfer, the writes that follow it, and the next position of the sequencer; or at most
one transfer, the writes, and the end of the command. -/
inductive Effect (i : Instr) (s t : State) : Prop
  | goesOn {u v : State} (htransfer : Transfer i s u) (hwrites : Writes i u v)
    (ht : t = v.advance i (s.position + 1)) : Effect i s t
  | ends {u v : State} {st : Status} {p : Payload} (htransfer : u = s ∨ Transfer i s u) (hwrites : Writes i u v)
    (hst : st ≠ .sampleDiscarded) (ht : t = v.endCommand st p) : Effect i s t

/-! ### The ends of a command -/

/-- `t` is `u` once command `i` has written its registers and ended. -/
def EndsAs (i : Instr) (u t : State) : Prop :=
  ∃ v st p, Writes i u v ∧ st ≠ .sampleDiscarded ∧ t = v.endCommand st p

section EndsAs

variable {i : Instr} (u : State)

theorem EndsAs.ret (p : Payload) : EndsAs i u (u.ret p) :=
  ⟨u, .ok, p, .nothing, by decide, rfl⟩

theorem CmdError.status_ne_sampleDiscarded (e : CmdError) : e.status ≠ .sampleDiscarded := by
  cases e <;> nofun

theorem EndsAs.raise (e : CmdError) : EndsAs i u (u.raise e) :=
  ⟨u, e.status, e.info, .nothing, e.status_ne_sampleDiscarded, rfl⟩

theorem EndsAs.endChipId (b : Byte) : EndsAs i u (u.endChipId b) := by
  unfold State.endChipId
  split
  · exact .ret u _
  · exact .raise u _

theorem EndsAs.loadGi_ret (b : Vector Byte 6) (p : Payload) (hi : loadsCache i = true) :
    EndsAs i u ((u.loadGi b).ret p) :=
  ⟨u.loadGi b, .ok, p, .cache hi b, by decide, rfl⟩

end EndsAs

/-- The step of a command of at most one transfer. -/
def OneStep (i : Instr) (s t : State) : Prop :=
  ∃ u, (u = s ∨ Transfer i s u) ∧ EndsAs i u t

section OneStep

variable {i : Instr} {s t : State} {addr : Byte}

theorem OneStep.noTransfer (h : EndsAs i s t) : OneStep i s t :=
  ⟨s, .inl rfl, h⟩

theorem OneStep.readThen {n : Nat} {rest : Vector Byte n → State → State}
    (hown : .read addr n ∈ Access.allowed s.cfg i) (hspace : inSpace addr n = true)
    (hrest : ∀ b u, EndsAs i u (rest b u)) : OneStep i s (s.readThen addr n rest) := by
  refine ⟨s.afterRead addr n, .inr (.read hown hspace), ?_⟩
  obtain ⟨b, -, h⟩ | ⟨d, -, h⟩ := s.readThen_cases addr n rest
  · exact h ▸ hrest b _
  · exact h ▸ .raise _ _

theorem OneStep.writeThen {data : List Byte} {rest : State → State}
    (hown : .write addr data.length ∈ Access.allowed s.cfg i) (hspace : inSpace addr data.length = true)
    (hrest : ∀ u, EndsAs i u (rest u)) : OneStep i s (s.writeThen addr data rest) := by
  refine ⟨s.afterWrite addr data, .inr (.write hown hspace), ?_⟩
  obtain ⟨-, h⟩ | ⟨d, -, h⟩ := s.writeThen_cases addr data rest
  · exact h ▸ hrest _
  · exact h ▸ .raise _ _

/-- A command with a check before its transfer. -/
theorem OneStep.checked {c : Prop} [Decidable c] {e : CmdError} (h : c → OneStep i s t) :
    OneStep i s (if c then t else s.raise e) := by
  split
  · exact h ‹_›
  · exact .noTransfer (.raise s e)

theorem Effect.endsAfter {u : State} (htransfer : u = s ∨ Transfer i s u) (h : EndsAs i u t) : Effect i s t := by
  obtain ⟨v, st, p, hw, hst, ht⟩ := h
  exact .ends htransfer hw hst ht

theorem OneStep.effect (h : OneStep i s t) : Effect i s t := by
  obtain ⟨u, htransfer, hends⟩ := h
  exact .endsAfter htransfer hends

theorem OneStep.seq_eq (h : OneStep i s t) : t.seq = .idle := by
  obtain ⟨u, -, v, st, p, -, -, rfl⟩ := h
  rfl

end OneStep

/-! ### The registers of a command exist (20_memory.md R59) -/

theorem inSpace_one (addr : Byte) : inSpace addr 1 = true := by
  simp [inSpace]
  omega

theorem inSpace_of_transferInRange {addr : Byte} {n : Nat} (h : transferInRange addr n = true) :
    inSpace addr n = true := by
  obtain ⟨hpos, -, hend⟩ := transferInRange_iff.mp h
  simp [inSpace, hpos, hend]

/-- The GestureInit base leaves room for six registers (70_reset_and_hazards.md R233). -/
theorem inSpace_regGestureInit (c : Config) : inSpace (regGestureInit c) 6 = true := by
  have hbase := c.gestureInitBase.isLt
  simp [inSpace, regGestureInit]
  omega

/-- The two slots of the multi-touch frame (30_encoding.md R74, 41_decoder.md R127). -/
theorem slot_eq_of_slotInRange {slot : Byte} (h : slotInRange slot = true) : slot = 0 ∨ slot = 1 := by
  have hlt := slotInRange_iff.mp h
  simp only [← BitVec.toNat_inj, BitVec.ofNat_eq_ofNat, BitVec.toNat_ofNat]
  omega

theorem read_slotBase_mem_allowed (c : Config) {slot : Byte} (h : slotInRange slot = true) :
    .read (slotBase slot) 6 ∈ Access.allowed c (.readTouch slot) := by
  obtain rfl | rfl := slot_eq_of_slotInRange h
  · exact .head _
  · exact .head _

theorem inSpace_slotBase {slot : Byte} (h : slotInRange slot = true) : inSpace (slotBase slot) 6 = true := by
  obtain rfl | rfl := slot_eq_of_slotInRange h
  · rfl
  · rfl

/-! ### The step of every command -/

/-- The commands of several transfers (10_state.md R22). -/
def isLong : Instr → Bool
  | .calibrate | .getCoordinates | .gestureDetect | .hardReset => true
  | _ => false

/-- Any other command runs from Idle, in one step. -/
theorem oneStep_of_exec {i : Instr} {s t : State} (hi : isLong i = false) (h : exec i s = .next t) :
    s.seq = .idle ∧ OneStep i s t := by
  have key {body : State → State} (hbody : exec i s = s.inOneStep body) (hstep : OneStep i s (body s)) :
      s.seq = .idle ∧ OneStep i s t := by
    obtain ⟨hidle, rfl⟩ := State.inOneStep_next (hbody ▸ h)
    exact ⟨hidle, hstep⟩
  cases i with
  | calibrate | getCoordinates | gestureDetect | hardReset => contradiction
  | readReg addr => exact key (exec_readReg s addr) (.readThen (.head _) (inSpace_one addr) fun _ u => .ret u _)
  | writeReg addr data =>
    exact key (exec_writeReg s addr data)
      (.checked fun hr => .writeThen (.head _) (inSpace_of_transferInRange hr) fun u => .ret u _)
  | readAfterWrite addr len =>
    exact key (exec_readAfterWrite s addr len)
      (.checked fun hr => .readThen (.head _) (inSpace_of_transferInRange hr) fun _ u => .ret u _)
  | decodeTouch => exact key (exec_decodeTouch s ..) (.noTransfer (.ret s _))
  | decodeMultitouch => exact key (exec_decodeMultitouch s ..) (.noTransfer (.ret s _))
  | decodeGesture b => exact key (exec_decodeGesture s b) (.noTransfer (.ret s _))
  | decodeChipId b => exact key (exec_decodeChipId s b) (.noTransfer (.endChipId s b))
  | decodeDevMode b => exact key (exec_decodeDevMode s b) (.noTransfer (.ret s _))
  | readDevMode => exact key (exec_readDevMode s) (.readThen (.head _) rfl fun _ u => .ret u _)
  | readGestureId => exact key (exec_readGestureId s) (.readThen (.head _) rfl fun _ u => .ret u _)
  | detectTouch => exact key (exec_detectTouch s) (.readThen (.head _) rfl fun _ u => .ret u _)
  | readTouch slot =>
    exact key (exec_readTouch s slot)
      (.checked fun hr => .readThen (read_slotBase_mem_allowed s.cfg hr) (inSpace_slotBase hr) fun _ u => .ret u _)
  | readMultitouch => exact key (exec_readMultitouch s) (.readThen (.head _) rfl fun _ u => .ret u _)
  | readChipId => exact key (exec_readChipId s) (.readThen (.head _) rfl fun b u => .endChipId u b[0])
  | readFirmwareId => exact key (exec_readFirmwareId s) (.readThen (.head _) rfl fun _ u => .ret u _)
  | readLibVersion => exact key (exec_readLibVersion s) (.readThen (.head _) rfl fun _ u => .ret u _)
  | giRead =>
    exact key (exec_giRead s)
      (.readThen (.head _) (inSpace_regGestureInit s.cfg) fun b u => .loadGi_ret u b _ rfl)
  | giSet => exact key (exec_giSet s ..) (.noTransfer (.loadGi_ret s _ _ rfl))
  | giWrite =>
    have hlen : s.giCache.toList.length = 6 := Vector.length_toList
    exact key (exec_giWrite s)
      (.checked fun _ => .writeThen (by rw [hlen]; exact .head _) (by rw [hlen]; exact inSpace_regGestureInit s.cfg)
        fun u => .ret u _)
  | getCapabilities => exact key (exec_getCapabilities s) (.noTransfer (.ret s _))

section Long

variable {s t : State}

theorem exec_calibrate_next (h : exec .calibrate s = .next t) :
    (s.seq = .idle ∨ ∃ k, s.seq = .busy .calibrate k) ∧ t = State.calResume s.position s := by
  rw [exec_calibrate] at h
  obtain ⟨hidle, rfl⟩ | ⟨k, hbusy, rfl⟩ := State.inSteps_next h
  · exact ⟨.inl hidle, by rw [State.position_idle hidle]⟩
  · exact ⟨.inr ⟨k, hbusy⟩, by rw [State.position_busy hbusy]⟩

/-- The body of GET_COORDINATES goes on from `u`: from its entry where no command ran. -/
theorem exec_getCoordinates_next (h : exec .getCoordinates s = .next t) :
    ∃ u, (s.seq = .idle ∧ u = s.coordEnter ∨ (∃ k, s.seq = .busy .getCoordinates k) ∧ u = s) ∧
      t = State.coordResume s.position u := by
  rw [exec_getCoordinates] at h
  obtain ⟨hidle, rfl⟩ | ⟨k, hbusy, rfl⟩ := State.inSteps_next h
  · exact ⟨s.coordEnter, .inl ⟨hidle, rfl⟩, by rw [State.position_idle hidle]⟩
  · exact ⟨s, .inr ⟨⟨k, hbusy⟩, rfl⟩, by rw [State.position_busy hbusy]⟩

/-- GESTURE_DETECT goes on from `u`, or its unit is absent (30_encoding.md R77). -/
theorem exec_gestureDetect_next (h : exec .gestureDetect s = .next t) :
    (s.seq = .idle ∧ s.cfg.gestureFeature = false ∧ t = s.raise .illegalCommand) ∨
    ∃ u, (s.seq = .idle ∧ s.cfg.gestureFeature = true ∧ u = s.gestureEnter ∨
        (∃ k, s.seq = .busy .gestureDetect k) ∧ u = s) ∧ t = State.gestureResume s.position u := by
  rw [exec_gestureDetect] at h
  obtain ⟨hidle, rfl⟩ | ⟨k, hbusy, rfl⟩ := State.inSteps_next h
  · cases hunit : s.cfg.gestureFeature
    · exact .inl ⟨hidle, rfl, if_neg Bool.false_ne_true⟩
    · exact .inr ⟨s.gestureEnter, .inl ⟨hidle, rfl, rfl⟩, by rw [State.position_idle hidle]; rfl⟩
  · exact .inr ⟨s, .inr ⟨⟨k, hbusy⟩, rfl⟩, by rw [State.position_busy hbusy]⟩

/-- HARD_RESET makes its next transfer, or its helper is absent (30_encoding.md R77). -/
theorem exec_hardReset_next (h : exec .hardReset s = .next t) :
    (s.seq = .idle ∧ s.cfg.resetHelper = false ∧ t = s.raise .illegalCommand) ∨
    ((s.seq = .idle ∧ s.cfg.resetHelper = true ∨ ∃ k, s.seq = .busy .hardReset k) ∧
      t = State.hardResetResume s.position s) := by
  rw [exec_hardReset] at h
  obtain ⟨hidle, rfl⟩ | ⟨k, hbusy, rfl⟩ := State.inSteps_next h
  · cases hunit : s.cfg.resetHelper
    · exact .inl ⟨hidle, rfl, if_neg Bool.false_ne_true⟩
    · exact .inr ⟨.inl ⟨hidle, rfl⟩, by rw [State.position_idle hidle]; rfl⟩
  · exact .inr ⟨.inr ⟨k, hbusy⟩, by rw [State.position_busy hbusy]⟩

end Long

/-! ### The step of CALIBRATE -/

theorem effect_calResume (s : State) : Effect .calibrate s (State.calResume s.position s) := by
  obtain ⟨hk, h⟩ | ⟨-, h⟩ | ⟨-, -, h⟩ := State.calResume_cases s.position s
  · have hwrite : Transfer .calibrate s (s.afterWrite regDevMode [s.cfg.devModeFactory]) := .write (.head _) rfl
    rw [h]
    obtain ⟨-, hr⟩ | ⟨d, -, hr⟩ := s.calRequest_cases
    · exact .goesOn hwrite (.cal rfl CalState.factoryModeRequested.code 0) (by rw [hr, hk]; rfl)
    · exact .endsAfter (.inr hwrite) ⟨_, .busError, .busError d, .cal rfl CalState.aborted.code 0, by decide, hr⟩
  · refine h ▸ .goesOn (.delay ?_) (.cal rfl CalState.polling.code (s.calAttempt + 1)) rfl
    split <;> simp
  · have hread : Transfer .calibrate s (s.afterRead regDevMode 1) := .read (.tail _ (.head _)) rfl
    rw [h]
    obtain ⟨b, -, -, hp⟩ | ⟨b, -, -, -, hp⟩ | ⟨b, -, -, -, hp⟩ | ⟨d, -, hp⟩ := s.calPoll_cases s.position
    · exact .endsAfter (.inr hread) ⟨_, .ok, _, .cal rfl CalState.calibrated.code s.calAttempt, by decide, hp⟩
    · exact .goesOn hread .nothing hp
    · exact .endsAfter (.inr hread)
        ⟨_, .calibrationTimeout, _, .cal rfl CalState.timedOut.code s.calAttempt, by decide, hp⟩
    · exact .endsAfter (.inr hread) ⟨_, .busError, _, .cal rfl CalState.aborted.code s.calAttempt, by decide, hp⟩

/-! ### The steps of GET_COORDINATES and GESTURE_DETECT -/

/-- A transfer of the body reads the touch count or the record, and writes the body's two registers. -/
theorem State.coordTransfer_shape (s : State) :
    ∃ outcome addr n due polls, (addr = 0x02 ∧ n = 1 ∨ addr = 0x03 ∧ n = 6) ∧
      s.coordTransfer = (outcome, { s.afterRead addr n with recordDue := due, coordPolls := polls }) := by
  obtain ⟨r, -, -, h⟩ | ⟨d, -, -, h⟩ | ⟨d, -, -, h⟩ | ⟨b, -, -, -, h⟩ | ⟨b, n, -, -, -, -, -, h⟩ | ⟨b, -, -, -, -, h⟩ :=
    s.coordTransfer_cases
  · exact ⟨_, 0x03, 6, false, s.coordPolls, .inr ⟨rfl, rfl⟩, h⟩
  · exact ⟨_, 0x03, 6, false, s.coordPolls, .inr ⟨rfl, rfl⟩, h⟩
  · exact ⟨_, 0x02, 1, s.recordDue, s.coordPolls, .inl ⟨rfl, rfl⟩, h⟩
  · exact ⟨_, 0x02, 1, true, s.coordPolls + 1, .inl ⟨rfl, rfl⟩, h⟩
  · exact ⟨_, 0x02, 1, s.recordDue, s.coordPolls + 1, .inl ⟨rfl, rfl⟩, h⟩
  · exact ⟨_, 0x02, 1, s.recordDue, s.coordPolls + 1, .inl ⟨rfl, rfl⟩, h⟩

/-- Both commands of the body may make its two reads. -/
theorem transfer_of_body_read {i : Instr} (hi : i = .getCoordinates ∨ i = .gestureDetect) (s : State) {addr : Byte}
    {n : Nat} (h : addr = 0x02 ∧ n = 1 ∨ addr = 0x03 ∧ n = 6) : Transfer i s (s.afterRead addr n) := by
  obtain ⟨rfl, rfl⟩ | ⟨rfl, rfl⟩ := h
  · obtain rfl | rfl := hi <;> exact .read (.head _) rfl
  · obtain rfl | rfl := hi <;> exact .read (.tail _ (.head _)) rfl

/-- The body goes on from `u`, which is `s` but for the body's two registers. -/
theorem effect_coordResume (s : State) (due : Bool) (polls : Nat) :
    Effect .getCoordinates s (State.coordResume s.position { s with recordDue := due, coordPolls := polls }) := by
  obtain ⟨outcome, addr, n, due', polls', hread, h⟩ :=
    State.coordTransfer_shape { s with recordDue := due, coordPolls := polls }
  have htransfer := transfer_of_body_read (.inl rfl) s hread
  have hwrites := Writes.coord (i := .getCoordinates) (s := s.afterRead addr n) rfl due' polls'
  rw [State.coordResume_eq, h]
  cases outcome with
  | more => exact .goesOn htransfer hwrites rfl
  | sample x y => exact .endsAfter (.inr htransfer) ⟨_, .ok, _, hwrites, by decide, rfl⟩
  | failed e => exact .endsAfter (.inr htransfer) ⟨_, e.status, _, hwrites, e.status_ne_sampleDiscarded, rfl⟩

/-- After an iteration, GESTURE_DETECT goes on or ends. -/
theorem effect_gestureNext {s u : State} (htransfer : Transfer .gestureDetect s u) (g : GestureRegs)
    {discards : List Event} (hdiscards : ∀ e ∈ discards, ∃ m ≤ u.gestureIteration, e = .sampleDiscarded m) :
    Effect .gestureDetect s (State.gestureNext { u.withGesture g with hist := u.hist ++ discards } s.position) := by
  obtain ⟨-, h⟩ | ⟨-, h⟩ := State.gestureNext_cases { u.withGesture g with hist := u.hist ++ discards } s.position
  · refine h ▸ .goesOn htransfer
      (.window rfl { g with recordDue := false, coordPolls := 0, smpIter := g.smpIter + 1 } discards hdiscards) rfl
  · exact h ▸ .endsAfter (.inr htransfer) ⟨_, .ok, _, .window rfl g discards hdiscards, by decide, rfl⟩

/-- GESTURE_DETECT goes on from `s` with the registers `g` of an iteration no later than its own. -/
theorem effect_gestureResume (s : State) (g : GestureRegs) (hiter : g.smpIter.toNat - 1 ≤ s.gestureIteration) :
    Effect .gestureDetect s (State.gestureResume s.position (s.withGesture g)) := by
  obtain ⟨outcome, addr, n, due, polls, hread, h⟩ := (s.withGesture g).coordTransfer_shape
  have htransfer := transfer_of_body_read (.inr rfl) s hread
  have hempty (e : Event) (he : e ∈ ([] : List Event)) : ∃ m ≤ s.gestureIteration, e = .sampleDiscarded m := by
    contradiction
  have hnil (g' : GestureRegs) : { (s.afterRead addr n).withGesture g' with hist := (s.afterRead addr n).hist ++ [] } =
      (s.afterRead addr n).withGesture g' := by
    rw [List.append_nil]
    rfl
  rw [State.gestureResume_eq, h]
  cases outcome with
  | more =>
    refine .goesOn htransfer (.window rfl { g with recordDue := due, coordPolls := polls } [] hempty) ?_
    rw [hnil]
    rfl
  | sample x y =>
    have hnext := effect_gestureNext htransfer
      (GestureRegs.putSample { g with recordDue := due, coordPolls := polls }
        ((s.withGesture g).sampleEntry (s.withGesture g).gestureIteration) (s.withGesture g).gestureIteration x y)
      hempty
    rw [hnil] at hnext
    exact hnext
  | failed e =>
    refine effect_gestureNext htransfer { g with recordDue := due, coordPolls := polls }
      (discards := [.sampleDiscarded (s.withGesture g).gestureIteration]) fun e he => ?_
    exact ⟨_, hiter, List.mem_singleton.mp he⟩

/-- The registers of GESTURE_DETECT at its entry (43_gesture.md R160). -/
theorem State.gestureEnter_eq_withGesture (s : State) :
    s.gestureEnter = s.withGesture
      { recordDue := false, coordPolls := 0, smpX := freeWindowX s.env.draws, smpY := freeWindowY s.env.draws,
        smpOk := 0, smpN := 0, smpIter := 1 } := by
  unfold State.gestureEnter State.clearWindow
  rfl

/-! ### The step of HARD_RESET -/

theorem effect_hardResetResume (s : State) : Effect .hardReset s (State.hardResetResume s.position s) := by
  obtain ⟨hk, -, h⟩ | ⟨-, -, h⟩ | ⟨hk, h⟩ | ⟨-, -, h⟩ | ⟨-, -, h⟩ := State.hardResetResume_cases s.position s
  · exact .goesOn (.pin .low) .nothing (by rw [h, hk])
  · exact h ▸ .endsAfter (.inr (.pin .low)) (.raise _ _)
  · exact .goesOn (.delay (.inr (.inr rfl))) .nothing (by rw [h, hk])
  · exact h ▸ .endsAfter (.inr (.pin .high)) (.ret _ _)
  · exact h ▸ .endsAfter (.inr (.pin .high)) (.raise _ _)

/-! ### The step of any command -/

/-- Whatever command runs, a step of it is a transfer with the writes after it, or its end. -/
theorem effect_of_exec {i : Instr} {s t : State} (h : exec i s = .next t) : Effect i s t := by
  cases i with
  | calibrate =>
    obtain ⟨-, rfl⟩ := exec_calibrate_next h
    exact effect_calResume s
  | getCoordinates =>
    obtain ⟨u, ⟨-, rfl⟩ | ⟨-, rfl⟩, rfl⟩ := exec_getCoordinates_next h
    · exact effect_coordResume s false 0
    · exact effect_coordResume u u.recordDue u.coordPolls
  | gestureDetect =>
    obtain ⟨-, -, rfl⟩ | ⟨u, ⟨-, -, rfl⟩ | ⟨-, rfl⟩, rfl⟩ := exec_gestureDetect_next h
    · exact .endsAfter (.inl rfl) (.raise s _)
    · rw [State.gestureEnter_eq_withGesture]
      exact effect_gestureResume s _ (Nat.zero_le _)
    · exact effect_gestureResume u
        ⟨u.recordDue, u.coordPolls, u.smpX, u.smpY, u.smpOk, u.smpN, u.smpIter⟩ le_rfl
  | hardReset =>
    obtain ⟨-, -, rfl⟩ | ⟨-, rfl⟩ := exec_hardReset_next h
    · exact .endsAfter (.inl rfl) (.raise s _)
    · exact effect_hardResetResume s
  | _ => exact (oneStep_of_exec rfl h).2.effect

/-! ### Which state a step writes (10_state.md section 8) -/

/-- What a step of command `i` leaves as it is. -/
structure Frame (i : Instr) (s t : State) : Prop where
  cfg : t.cfg = s.cfg
  cap : t.cap = s.cap
  words : t.env.words = s.env.words
  cal : i ≠ .calibrate → t.calState = s.calState ∧ t.calAttempt = s.calAttempt
  coord : i ≠ .getCoordinates ∧ i ≠ .gestureDetect → t.coordPolls = s.coordPolls ∧ t.recordDue = s.recordDue
  window : i ≠ .gestureDetect →
    t.smpX = s.smpX ∧ t.smpY = s.smpY ∧ t.smpOk = s.smpOk ∧ t.smpN = s.smpN ∧ t.smpIter = s.smpIter
  cache : loadsCache i = false → t.giCache = s.giCache ∧ t.giValid = s.giValid

section Frame

variable {i : Instr} {s t u v : State}

theorem Frame.refl : Frame i s s :=
  ⟨rfl, rfl, rfl, fun _ => ⟨rfl, rfl⟩, fun _ => ⟨rfl, rfl⟩, fun _ => ⟨rfl, rfl, rfl, rfl, rfl⟩, fun _ => ⟨rfl, rfl⟩⟩

theorem Frame.trans (h : Frame i s u) (h' : Frame i u t) : Frame i s t where
  cfg := h'.cfg.trans h.cfg
  cap := h'.cap.trans h.cap
  words := h'.words.trans h.words
  cal hi := (h.cal hi).imp (h'.cal hi).1.trans (h'.cal hi).2.trans
  coord hi := (h.coord hi).imp (h'.coord hi).1.trans (h'.coord hi).2.trans
  window hi := by
    obtain ⟨hx, hy, hok, hn, hiter⟩ := h.window hi
    obtain ⟨hx', hy', hok', hn', hiter'⟩ := h'.window hi
    exact ⟨hx'.trans hx, hy'.trans hy, hok'.trans hok, hn'.trans hn, hiter'.trans hiter⟩
  cache hi := (h.cache hi).imp (h'.cache hi).1.trans (h'.cache hi).2.trans

/-- A transfer changes the history and the world only. -/
theorem Transfer.frame (h : Transfer i s u) : Frame i s u := by
  cases h <;> exact { Frame.refl (s := s) with }

theorem Writes.frame (h : Writes i s u) : Frame i s u := by
  cases h with
  | nothing => exact .refl
  | cal hi => exact { Frame.refl (i := i) (s := s) with cal := fun hne => absurd hi hne }
  | coord hi => exact { Frame.refl (i := i) (s := s) with coord := fun ⟨hne, _⟩ => absurd hi hne }
  | window hi =>
    exact { Frame.refl (i := i) (s := s) with
      coord := fun ⟨_, hne⟩ => absurd hi hne
      window := fun hne => absurd hi hne }
  | cache hi => exact { Frame.refl (i := i) (s := s) with cache := fun hno => by rw [hi] at hno; contradiction }

theorem Frame.advance (k : Nat) (h : Frame i s v) : Frame i s (v.advance i k) :=
  { h with }

theorem Frame.endCommand (st : Status) (p : Payload) (h : Frame i s v) : Frame i s (v.endCommand st p) :=
  { h with }

theorem frame_of_exec (h : exec i s = .next t) : Frame i s t := by
  obtain ⟨htransfer, hwrites, rfl⟩ | ⟨rfl | htransfer, hwrites, -, rfl⟩ := effect_of_exec h
  · exact (htransfer.frame.trans hwrites.frame).advance _
  · exact hwrites.frame.endCommand _ _
  · exact (htransfer.frame.trans hwrites.frame).endCommand _ _

end Frame

/-- Settles O56. -/
theorem writeSets : Obligations.WriteSets := by
  intro s t i h
  have hf := frame_of_exec h
  refine ⟨hf.cfg, hf.cap, hf.words, hf.cal, hf.coord, hf.window, fun ⟨hread, hset⟩ => hf.cache ?_⟩
  cases i with
  | giRead => exact absurd rfl hread
  | giSet b0 b1 b2 b3 b4 b5 => exact absurd rfl (hset b0 b1 b2 b3 b4 b5)
  | _ => rfl

/-! ### What a step appends to the history -/

/-- A transfer that command `i` may make: a legal event, and on the bus one of its own accesses. -/
structure Event.Own (c : Config) (i : Instr) (e : Event) : Prop where
  isTransfer : e.isTransfer = true
  legal : e.legal c = true
  access : e.isBus = true → ∃ a ∈ Access.allowed c i, e.access = some a

/-- The events of a step of command `i`: of one that goes on, a transfer and perhaps a discarded sample; of one that
ends, at most one transfer, perhaps a discarded sample, and CommandEnd. -/
inductive StepLog (i : Instr) (s t : State) : Prop
  | goesOn {e : Event} {discards : List Event} (hown : e.Own s.cfg i)
    (hdiscards : ∀ d ∈ discards, ∃ m ≤ s.gestureIteration, d = .sampleDiscarded m)
    (hseq : t.seq = .busy i (s.position + 1)) (hhist : t.hist = s.hist ++ (e :: discards))
  | ends {transfers discards : List Event} {st : Status} (hone : transfers.length ≤ 1)
    (hown : ∀ e ∈ transfers, e.Own s.cfg i)
    (hdiscards : ∀ d ∈ discards, ∃ m ≤ s.gestureIteration, d = .sampleDiscarded m) (hst : st ≠ .sampleDiscarded)
    (hseq : t.seq = .idle) (hstatus : t.status = st.code)
    (hhist : t.hist = s.hist ++ (transfers ++ discards ++ [.commandEnd st.code]))

section StepLog

variable {i : Instr} {s t u v : State}

/-- A transfer appends one event of the command's own. -/
theorem Transfer.appends (h : Transfer i s u) : ∃ e, e.Own s.cfg i ∧ u.hist = s.hist ++ [e] := by
  cases h with
  | @read addr n hown hspace =>
    refine ⟨_, ⟨rfl, ?_, fun _ => ⟨_, hown, rfl⟩⟩, rfl⟩
    cases s.busReply n <;> simp [Event.legal, BusReply.outcome, hspace]
  | write hown hspace => exact ⟨_, ⟨rfl, by simp [Event.legal, hspace], fun _ => ⟨_, hown, rfl⟩⟩, rfl⟩
  | delay hms =>
    refine ⟨.delay _, ⟨rfl, ?_, nofun⟩, rfl⟩
    obtain rfl | rfl | rfl := hms <;> rfl
  | pin l => exact ⟨.pin l _, ⟨rfl, rfl, nofun⟩, rfl⟩

/-- The writes of a step append nothing but discarded samples. -/
theorem Writes.appends (h : Writes i u v) :
    ∃ discards, (∀ d ∈ discards, ∃ m ≤ u.gestureIteration, d = .sampleDiscarded m) ∧ v.hist = u.hist ++ discards := by
  cases h with
  | window hi g discards hdiscards => exact ⟨discards, hdiscards, rfl⟩
  | _ => exact ⟨[], nofun, (List.append_nil _).symm⟩

theorem Transfer.gestureIteration_eq (h : Transfer i s u) : u.gestureIteration = s.gestureIteration := by
  cases h <;> rfl

theorem stepLog_of_exec (h : exec i s = .next t) : StepLog i s t := by
  obtain ⟨htransfer, hwrites, rfl⟩ | ⟨rfl | htransfer, hwrites, hst, rfl⟩ := effect_of_exec h
  · obtain ⟨e, hown, hu⟩ := htransfer.appends
    obtain ⟨discards, hdiscards, hv⟩ := hwrites.appends
    rw [htransfer.gestureIteration_eq] at hdiscards
    exact .goesOn hown hdiscards rfl (by rw [State.advance_hist, hv, hu, List.append_assoc]; rfl)
  · obtain ⟨discards, hdiscards, hv⟩ := hwrites.appends
    exact .ends (transfers := []) (Nat.zero_le 1) nofun hdiscards hst rfl rfl
      (by rw [State.endCommand_hist, hv, List.append_assoc]; rfl)
  · obtain ⟨e, hown, hu⟩ := htransfer.appends
    obtain ⟨discards, hdiscards, hv⟩ := hwrites.appends
    rw [htransfer.gestureIteration_eq] at hdiscards
    exact .ends (transfers := [e]) le_rfl (fun e' he => List.mem_singleton.mp he ▸ hown) hdiscards hst rfl rfl
      (by rw [State.endCommand_hist, hv, hu, List.append_assoc, List.append_assoc, List.append_assoc])

end StepLog

section Discards

variable {discards : List Event} {last : Nat} (hd : ∀ d ∈ discards, ∃ m ≤ last, d = .sampleDiscarded m)
include hd

/-- Discarded samples are no transfers. -/
theorem filter_isTransfer_discards : discards.filter Event.isTransfer = [] := by
  refine List.filter_eq_nil_iff.mpr fun d hmem => ?_
  obtain ⟨m, -, rfl⟩ := hd d hmem
  exact Bool.false_ne_true

/-- Discarded samples end no command. -/
theorem commandEnd_notMem_discards (st : Byte) : .commandEnd st ∉ discards := by
  intro hmem
  obtain ⟨m, -, heq⟩ := hd _ hmem
  contradiction

/-- Discarded samples are no bus transactions. -/
theorem isBus_eq_false_of_mem_discards {d : Event} (hmem : d ∈ discards) : d.isBus = false := by
  obtain ⟨m, -, rfl⟩ := hd d hmem
  rfl

end Discards

/-- Settles O57: the events of a step are those of `StepLog`. -/
theorem oneTransferPerStep : Obligations.OneTransferPerStep := by
  intro s t i h
  obtain ⟨hown, hd, hseq, hhist⟩ | ⟨hone, hown, hd, -, hseq, hstatus, hhist⟩ := stepLog_of_exec h
  case goesOn e discards =>
    have hcount : ((e :: discards).filter Event.isTransfer).length = 1 := by
      rw [List.filter_cons_of_pos hown.isTransfer, filter_isTransfer_discards hd]
      rfl
    refine ⟨e :: discards, hhist, hcount.le, fun hidle => ?_, fun _ => ⟨hcount, fun st hmem => ?_⟩⟩
    · rw [hseq] at hidle
      contradiction
    · obtain rfl | hmem := List.mem_cons.mp hmem
      · exact absurd hown.isTransfer Bool.false_ne_true
      · exact commandEnd_notMem_discards hd st hmem
  case ends transfers discards st =>
    refine ⟨_, hhist, ?_, fun _ => ?_, fun hne => absurd hseq hne⟩
    · rw [List.filter_append, List.filter_append, filter_isTransfer_discards hd]
      simpa [Event.isTransfer] using (List.length_filter_le _ _).trans hone
    · rw [List.getLast?_concat, hstatus]

/-- Settles O58: a bus event of a step is its transfer. -/
theorem commandsReachOwnRegisters : Obligations.CommandsReachOwnRegisters := by
  intro s t i e h hmem hbus
  obtain ⟨hown, hd, -, hhist⟩ | ⟨-, hown, hd, -, -, -, hhist⟩ := stepLog_of_exec h
  all_goals rw [hhist, List.drop_left] at hmem
  case goesOn =>
    obtain rfl | hmem := List.mem_cons.mp hmem
    · exact hown.access hbus
    · rw [isBus_eq_false_of_mem_discards hd hmem] at hbus
      contradiction
  case ends =>
    obtain hmem | hmem := List.mem_append.mp hmem
    · obtain hmem | hmem := List.mem_append.mp hmem
      · exact (hown e hmem).access hbus
      · rw [isBus_eq_false_of_mem_discards hd hmem] at hbus
        contradiction
    · obtain rfl := List.mem_singleton.mp hmem
      contradiction

end Sys2Proof.Machine
end

section
/-! PROOFS. The invariant (Sys2Proof/Safety.lean): it holds at reset, every step keeps it, and from a state that meets
it the machine never stops. The history's part follows from `StepLog`, what a command does not write from `Frame`; what
is left is the sequencer of each command of several transfers. -/

namespace Sys2Proof.Machine

/-! ### The running command -/

theorem seq_ne_busy_of_idle {s : State} (hidle : s.seq = .idle) (c : Instr) (k : Nat) : s.seq ≠ .busy c k := by
  rw [hidle]
  nofun

theorem seq_ne_busy_of_exec {i c : Instr} {s t : State} (h : exec i s = .next t) (hne : i ≠ c) (k : Nat) :
    s.seq ≠ .busy c k := by
  intro hk
  rw [exec_portBusy hk hne] at h
  contradiction

/-! ### The history of a state of the invariant -/

theorem transfersSinceEnd_append_discards {discards : List Event} {last : Nat} (h : List Event)
    (hd : ∀ d ∈ discards, ∃ m ≤ last, d = .sampleDiscarded m) :
    transfersSinceEnd (h ++ discards) = transfersSinceEnd h := by
  induction discards generalizing h with
  | nil => rw [List.append_nil]
  | cons d ds ih =>
    obtain ⟨m, -, rfl⟩ := hd d List.mem_cons_self
    rw [List.append_cons, ih _ fun d' hmem => hd d' (List.mem_cons_of_mem _ hmem), transfersSinceEnd_append_discard]

/-- The status of an end is a code of R200 other than that of SampleDiscarded. -/
theorem legal_commandEnd {c : Config} {st : Status} (h : st ≠ .sampleDiscarded) :
    Event.legal c (.commandEnd st.code) = true := by
  cases st with
  | sampleDiscarded => contradiction
  | _ => rfl

section History

variable {i : Instr} {s t : State} (hs : s.Inv)
include hs

/-- The running iteration has a number of the nineteen. -/
theorem State.Inv.legal_discards {discards : List Event}
    (hd : ∀ d ∈ discards, ∃ m ≤ s.gestureIteration, d = .sampleDiscarded m) :
    ∀ d ∈ discards, d.legal s.cfg = true := by
  intro d hmem
  obtain ⟨m, hm, rfl⟩ := hd d hmem
  have hiter := hs.smpOk.2
  rw [State.gestureIteration] at hm
  exact decide_eq_true (by omega)

theorem State.Inv.transfersSinceEnd_eq_position : transfersSinceEnd s.hist = s.position :=
  hs.seqCounts

theorem legal_of_exec (h : exec i s = .next t) : ∀ e ∈ t.hist, e.legal t.cfg = true := by
  rw [(frame_of_exec h).cfg]
  obtain ⟨hown, hd, -, hhist⟩ | ⟨-, hown, hd, hst, -, -, hhist⟩ := stepLog_of_exec h
  all_goals
    rw [hhist]
    intro e hmem
    obtain hold | hnew := List.mem_append.mp hmem
    · exact hs.histOk e hold
  case goesOn =>
    obtain rfl | hmem := List.mem_cons.mp hnew
    · exact hown.legal
    · exact hs.legal_discards hd e hmem
  case ends =>
    obtain hnew | hend := List.mem_append.mp hnew
    · obtain hmem | hmem := List.mem_append.mp hnew
      · exact (hown e hmem).legal
      · exact hs.legal_discards hd e hmem
    · rw [List.mem_singleton.mp hend]
      exact legal_commandEnd hst

theorem transfersSinceEnd_of_exec (h : exec i s = .next t) : transfersSinceEnd t.hist = t.position := by
  obtain ⟨hown, hd, hseq, hhist⟩ | ⟨-, -, -, -, hseq, -, hhist⟩ := stepLog_of_exec h
  · rw [hhist, List.append_cons, transfersSinceEnd_append_discards _ hd,
      transfersSinceEnd_append_transfer hown.isTransfer, hs.transfersSinceEnd_eq_position, State.position_busy hseq]
  · rw [hhist, ← List.append_assoc, transfersSinceEnd_append_end, State.position_idle hseq]

end History

/-! ### CALIBRATE and the invariant -/

/-- `CAL_STATE` and `CAL_ATTEMPT` as the invariant has them while CALIBRATE does not run (10_state.md R25, R26). -/
def State.calRests (s : State) : Prop :=
  (s.calState = CalState.idle.code ∧ s.calAttempt = 0) ∨
  (s.calState = CalState.calibrated.code ∧ 1 ≤ s.calAttempt.toNat ∧ s.calAttempt.toNat ≤ 100) ∨
  (s.calState = CalState.timedOut.code ∧ s.calAttempt.toNat = 100) ∨
  (s.calState = CalState.aborted.code ∧ s.calAttempt.toNat ≤ 100)

/-- What the invariant asks of the calibration registers. -/
def State.calLegal (s : State) : Prop :=
  s.seqLegal ∧ (¬ s.calibrating → s.calRests)

theorem State.seqLegal_calibrate {s : State} {k : Nat} (h : s.seq = .busy .calibrate k) :
    s.seqLegal ↔ s.recordDue = false ∧ 1 ≤ k ∧ k ≤ 200 ∧ s.calAttempt.toNat = k / 2 ∧
      s.calState = if k = 1 then CalState.factoryModeRequested.code else CalState.polling.code := by
  rw [State.seqLegal, h]

theorem State.seqLegal_idle {s : State} (h : s.seq = .idle) : s.seqLegal ↔ s.recordDue = false := by
  rw [State.seqLegal, h]

theorem State.calLegal_of_rests {s : State} (hidle : s.seq = .idle) (hdue : s.recordDue = false) (h : s.calRests) :
    s.calLegal :=
  ⟨(State.seqLegal_idle hidle).mpr hdue, fun _ => h⟩

theorem State.calLegal_of_busy {s : State} {k : Nat} (hseq : s.seq = .busy .calibrate k) (hdue : s.recordDue = false)
    (hpos : 1 ≤ k) (hmax : k ≤ 200) (hattempt : s.calAttempt.toNat = k / 2)
    (hstate : s.calState = if k = 1 then CalState.factoryModeRequested.code else CalState.polling.code) : s.calLegal :=
  ⟨(State.seqLegal_calibrate hseq).mpr ⟨hdue, hpos, hmax, hattempt, hstate⟩, fun hnot => absurd ⟨k, hseq⟩ hnot⟩

/-- A new calibration, whatever `CAL_STATE` holds (42_calibration.md R141, R144). -/
theorem calLegal_calRequest {s : State} (hdue : s.recordDue = false) : s.calRequest.calLegal := by
  obtain ⟨-, h⟩ | ⟨d, -, h⟩ := s.calRequest_cases
  · exact h ▸ State.calLegal_of_busy rfl hdue le_rfl (by decide) rfl rfl
  · exact h ▸ State.calLegal_of_rests rfl hdue (.inr (.inr (.inr ⟨rfl, Nat.zero_le 100⟩)))

/-- The attempt number never wraps: it is at most 100 (10_state.md R26). -/
theorem toNat_calAttempt_add_one {a : BitVec 7} (h : a.toNat ≤ 100) : (a + 1).toNat = a.toNat + 1 := by
  rw [BitVec.toNat_add]
  exact Nat.mod_eq_of_lt (by change a.toNat + 1 < 128; omega)

theorem calLegal_calResume {s : State} {k : Nat} (hseq : s.seq = .busy .calibrate k) (hlegal : s.seqLegal) :
    (State.calResume k s).calLegal := by
  obtain ⟨hdue, hpos, hmax, hattempt, hstate⟩ := (State.seqLegal_calibrate hseq).mp hlegal
  obtain ⟨rfl, -⟩ | ⟨hodd, h⟩ | ⟨-, heven, h⟩ := State.calResume_cases k s
  · contradiction
  · rw [h]
    refine State.calLegal_of_busy (k := k + 1) rfl hdue (by omega) (by omega) ?_ (if_neg (by omega)).symm
    exact (toNat_calAttempt_add_one (a := s.calAttempt) (by omega)).trans (by omega)
  · rw [if_neg (by omega)] at hstate
    rw [h]
    obtain ⟨b, -, -, hp⟩ | ⟨b, -, -, hlow, hp⟩ | ⟨b, -, -, hhigh, hp⟩ | ⟨d, -, hp⟩ := s.calPoll_cases k
    all_goals rw [hp]
    · exact State.calLegal_of_rests rfl hdue (.inr (.inl ⟨rfl, by change 1 ≤ s.calAttempt.toNat; omega,
        by change s.calAttempt.toNat ≤ 100; omega⟩))
    · refine State.calLegal_of_busy (k := k + 1) rfl hdue (by omega) (by omega) ?_ ?_
      · exact hattempt.trans (by omega)
      · exact hstate.trans (if_neg (by omega)).symm
    · exact State.calLegal_of_rests rfl hdue (.inr (.inr (.inl ⟨rfl, by change s.calAttempt.toNat = 100; omega⟩)))
    · exact State.calLegal_of_rests rfl hdue (.inr (.inr (.inr ⟨rfl, by change s.calAttempt.toNat ≤ 100; omega⟩)))

theorem calLegal_of_exec {s t : State} (hs : s.Inv) (h : exec .calibrate s = .next t) : t.calLegal := by
  obtain ⟨hidle | ⟨k, hbusy⟩, rfl⟩ := exec_calibrate_next h
  · rw [State.position_idle hidle]
    exact calLegal_calRequest ((State.seqLegal_idle hidle).mp hs.seqOk)
  · rw [State.position_busy hbusy]
    exact calLegal_calResume hbusy hs.seqOk

/-! ### The body of GET_COORDINATES and the invariant -/

/-- A poll budget is at least 1 (70_reset_and_hazards.md R233), so a body that has counted nothing has budget left. -/
theorem State.budgetLeft_of_coordPolls_eq_zero {s : State} (h : s.coordPolls = 0) : s.budgetLeft :=
  fun _ n _ => h ▸ n.property

/-- A transfer that goes on has counted one poll and left some budget. -/
theorem State.coordTransfer_more {s t : State} (hbudget : s.budgetLeft) (h : s.coordTransfer = (.more, t)) :
    t.coordPolls = s.coordPolls + 1 ∧ t.budgetLeft := by
  obtain ⟨r, -, -, h'⟩ | ⟨d, -, -, h'⟩ | ⟨d, -, -, h'⟩ | ⟨b, -, -, -, h'⟩ | ⟨b, n, -, -, -, -, -, h'⟩ |
    ⟨b, hdue, -, -, hne, h'⟩ := s.coordTransfer_cases
  all_goals
    rw [h', Prod.mk.injEq] at h
    obtain ⟨hmore, rfl⟩ := h
  case inr.inr.inr.inl => exact ⟨rfl, fun hdue => absurd hdue.symm Bool.false_ne_true⟩
  case inr.inr.inr.inr.inr =>
    exact ⟨rfl, fun _ n hn => Nat.lt_of_le_of_ne (hbudget hdue n hn) (hne n hn)⟩
  all_goals contradiction

/-- A transfer that ends the body leaves no record read due. -/
theorem State.coordTransfer_ends {s t : State} {outcome : CoordOutcome} (h : s.coordTransfer = (outcome, t))
    (hends : outcome ≠ .more) : t.recordDue = false := by
  obtain ⟨r, -, -, h'⟩ | ⟨d, -, -, h'⟩ | ⟨d, hdue, -, h'⟩ | ⟨b, -, -, -, h'⟩ | ⟨b, n, hdue, -, -, -, -, h'⟩ |
    ⟨b, -, -, -, -, h'⟩ := s.coordTransfer_cases
  all_goals
    rw [h', Prod.mk.injEq] at h
    obtain ⟨rfl, rfl⟩ := h
  case inr.inr.inl | inr.inr.inr.inr.inl => exact hdue
  case inr.inr.inr.inl | inr.inr.inr.inr.inr => contradiction
  all_goals rfl

/-! ### GET_COORDINATES and the invariant -/

theorem seqLegal_coordResume {u : State} (hbudget : u.budgetLeft) : (State.coordResume u.coordPolls u).seqLegal := by
  rw [State.coordResume_eq]
  split
  next t h =>
    obtain ⟨hpolls, hleft⟩ := State.coordTransfer_more hbudget h
    exact ⟨Nat.succ_pos _, hpolls.symm, hleft⟩
  next x y t h =>
    have hdue := State.coordTransfer_ends h nofun
    exact hdue
  next e t h =>
    have hdue := State.coordTransfer_ends h nofun
    exact hdue

theorem State.seqLegal_getCoordinates {s : State} {k : Nat} (h : s.seq = .busy .getCoordinates k) :
    s.seqLegal ↔ 1 ≤ k ∧ k = s.coordPolls ∧ s.budgetLeft := by
  rw [State.seqLegal, h]

theorem seqLegal_of_exec_getCoordinates {s t : State} (hs : s.Inv) (h : exec .getCoordinates s = .next t) :
    t.seqLegal := by
  obtain ⟨u, ⟨hidle, rfl⟩ | ⟨⟨k, hbusy⟩, rfl⟩, rfl⟩ := exec_getCoordinates_next h
  · rw [State.position_idle hidle]
    exact seqLegal_coordResume (u := s.coordEnter) (State.budgetLeft_of_coordPolls_eq_zero rfl)
  · obtain ⟨-, rfl, hbudget⟩ := (State.seqLegal_getCoordinates hbusy).mp hs.seqOk
    rw [State.position_busy hbusy]
    exact seqLegal_coordResume hbudget

/-! ### GESTURE_DETECT and the invariant -/

/-- What the invariant asks of GESTURE_DETECT's registers. -/
structure State.SamplesLegal (s : State) : Prop where
  seqOk : s.seqLegal
  smpOk : s.smpN.toNat ≤ s.smpIter.toNat ∧ s.smpIter.toNat ≤ 19
  smpWhole : ¬ s.sampling → s.smpIter = 0 ∨ s.smpIter = 19

/-- While the gesture unit runs iteration `SMP_ITER - 1`, fewer samples than iterations have been taken. -/
structure State.Iterating (s : State) : Prop where
  unit : s.cfg.gestureFeature = true
  started : 1 ≤ s.smpIter.toNat
  fewer : s.smpN.toNat < s.smpIter.toNat
  last : s.smpIter.toNat ≤ 19

theorem State.seqLegal_gestureDetect {s : State} {k : Nat} (h : s.seq = .busy .gestureDetect k) :
    s.seqLegal ↔ 1 ≤ k ∧ s.cfg.gestureFeature = true ∧ 1 ≤ s.smpIter.toNat ∧ s.smpN.toNat < s.smpIter.toNat ∧
      s.budgetLeft := by
  rw [State.seqLegal, h]

theorem State.Iterating.samplesLegal {s : State} {k : Nat} (h : s.Iterating) (hseq : s.seq = .busy .gestureDetect k)
    (hpos : 1 ≤ k) (hbudget : s.budgetLeft) : s.SamplesLegal where
  seqOk := (State.seqLegal_gestureDetect hseq).mpr ⟨hpos, h.unit, h.started, h.fewer, hbudget⟩
  smpOk := ⟨h.fewer.le, h.last⟩
  smpWhole hnot := absurd ⟨k, hseq⟩ hnot

/-- A sample counter below 31 does not wrap. -/
theorem toNat_counter_add_one {n : BitVec 5} (h : n.toNat < 31) : (n + 1).toNat = n.toNat + 1 := by
  rw [BitVec.toNat_add]
  exact Nat.mod_eq_of_lt (by change n.toNat + 1 < 32; omega)

/-- After an iteration, which took one sample or none. -/
theorem samplesLegal_gestureNext {v : State} (k : Nat) (hunit : v.cfg.gestureFeature = true)
    (hdue : v.recordDue = false) (hstarted : 1 ≤ v.smpIter.toNat) (hn : v.smpN.toNat ≤ v.smpIter.toNat)
    (hlast : v.smpIter.toNat ≤ 19) : (v.gestureNext k).SamplesLegal := by
  obtain ⟨hlt, h⟩ | ⟨hge, h⟩ := v.gestureNext_cases k
  · have hnext : (v.smpIter + 1).toNat = v.smpIter.toNat + 1 := toNat_counter_add_one (by omega)
    rw [h]
    refine State.Iterating.samplesLegal (k := k + 1) ⟨hunit, ?_, ?_, ?_⟩ rfl (Nat.succ_pos k)
      (State.budgetLeft_of_coordPolls_eq_zero rfl)
    · exact hnext ▸ Nat.succ_pos _
    · exact hnext ▸ Nat.lt_succ_of_le hn
    · exact hnext ▸ hlt
  · rw [h]
    exact ⟨hdue, ⟨hn, hlast⟩, fun _ => .inr (BitVec.eq_of_toNat_eq (le_antisymm hlast hge))⟩

theorem samplesLegal_gestureResume {u : State} (k : Nat) (hu : u.Iterating) (hbudget : u.budgetLeft) :
    (State.gestureResume k u).SamplesLegal := by
  obtain ⟨outcome, addr, n, due, polls, -, h⟩ := u.coordTransfer_shape
  have hlast := hu.last
  have hfewer := hu.fewer
  rw [State.gestureResume_eq, h]
  cases outcome with
  | more =>
    exact State.Iterating.samplesLegal (k := k + 1) ⟨hu.unit, hu.started, hu.fewer, hu.last⟩ rfl (Nat.succ_pos k)
      (State.coordTransfer_more hbudget h).2
  | sample x y =>
    have hdue := State.coordTransfer_ends h nofun
    have hcount : (u.smpN + 1).toNat = u.smpN.toNat + 1 := toNat_counter_add_one (by omega)
    exact samplesLegal_gestureNext k hu.unit hdue hu.started (hcount.trans_le hfewer) hlast
  | failed e =>
    have hdue := State.coordTransfer_ends h nofun
    exact samplesLegal_gestureNext k hu.unit hdue hu.started hfewer.le hlast

theorem samplesLegal_of_exec {s t : State} (hs : s.Inv) (h : exec .gestureDetect s = .next t) : t.SamplesLegal := by
  obtain ⟨hidle, -, rfl⟩ | ⟨u, ⟨-, hunit, rfl⟩ | ⟨⟨k, hbusy⟩, rfl⟩, rfl⟩ := exec_gestureDetect_next h
  · have hnot : ¬ s.sampling := fun ⟨k, hk⟩ => seq_ne_busy_of_idle hidle _ k hk
    exact ⟨(State.seqLegal_idle hidle).mp hs.seqOk, hs.smpOk, fun _ => hs.smpWhole hnot⟩
  · refine samplesLegal_gestureResume _ ⟨?_, ?_, ?_, ?_⟩
      (State.budgetLeft_of_coordPolls_eq_zero (State.gestureEnter_coordPolls s)) <;> simp [hunit]
  · obtain ⟨-, hunit, hstarted, hfewer, hbudget⟩ := (State.seqLegal_gestureDetect hbusy).mp hs.seqOk
    exact samplesLegal_gestureResume _ ⟨hunit, hstarted, hfewer, hs.smpOk.2⟩ hbudget

/-! ### HARD_RESET and the invariant -/

theorem State.seqLegal_hardReset {s : State} {k : Nat} (h : s.seq = .busy .hardReset k) :
    s.seqLegal ↔ s.recordDue = false ∧ (k = 1 ∨ k = 2) ∧ s.cfg.resetHelper = true := by
  rw [State.seqLegal, h]

theorem seqLegal_hardResetResume {s : State} (k : Nat) (hdue : s.recordDue = false) (hunit : s.cfg.resetHelper = true) :
    (State.hardResetResume k s).seqLegal := by
  obtain ⟨-, -, h⟩ | ⟨-, -, h⟩ | ⟨-, h⟩ | ⟨-, -, h⟩ | ⟨-, -, h⟩ := State.hardResetResume_cases k s
  all_goals rw [h]
  · exact ⟨hdue, .inl rfl, hunit⟩
  · exact hdue
  · exact ⟨hdue, .inr rfl, hunit⟩
  · exact hdue
  · exact hdue

theorem seqLegal_of_exec_hardReset {s t : State} (hs : s.Inv) (h : exec .hardReset s = .next t) : t.seqLegal := by
  obtain ⟨hidle, -, rfl⟩ | ⟨⟨hidle, hunit⟩ | ⟨k, hbusy⟩, rfl⟩ := exec_hardReset_next h
  · exact (State.seqLegal_idle hidle).mp hs.seqOk
  · exact seqLegal_hardResetResume _ ((State.seqLegal_idle hidle).mp hs.seqOk) hunit
  · obtain ⟨hdue, -, hunit⟩ := (State.seqLegal_hardReset hbusy).mp hs.seqOk
    exact seqLegal_hardResetResume _ hdue hunit

/-! ### Every step keeps the invariant -/

section Exec

variable {i : Instr} {s t : State} (hs : s.Inv) (h : exec i s = .next t)
include hs h

theorem seqLegal_of_exec : t.seqLegal := by
  cases i with
  | calibrate => exact (calLegal_of_exec hs h).1
  | getCoordinates => exact seqLegal_of_exec_getCoordinates hs h
  | gestureDetect => exact (samplesLegal_of_exec hs h).seqOk
  | hardReset => exact seqLegal_of_exec_hardReset hs h
  | _ =>
    obtain ⟨hidle, hstep⟩ := oneStep_of_exec rfl h
    have hdue := ((frame_of_exec h).coord ⟨nofun, nofun⟩).2
    exact (State.seqLegal_idle hstep.seq_eq).mpr (hdue.trans ((State.seqLegal_idle hidle).mp hs.seqOk))

theorem calRests_of_exec (hnot : ¬ t.calibrating) : t.calRests := by
  by_cases hi : i = .calibrate
  · subst hi
    exact (calLegal_of_exec hs h).2 hnot
  · obtain ⟨hstate, hattempt⟩ := (frame_of_exec h).cal hi
    have hrests : s.calRests := hs.calOk fun ⟨k, hk⟩ => seq_ne_busy_of_exec h hi k hk
    rw [State.calRests, hstate, hattempt]
    exact hrests

theorem samples_of_exec : (t.smpN.toNat ≤ t.smpIter.toNat ∧ t.smpIter.toNat ≤ 19) ∧
    (¬ t.sampling → t.smpIter = 0 ∨ t.smpIter = 19) := by
  by_cases hi : i = .gestureDetect
  · subst hi
    exact ⟨(samplesLegal_of_exec hs h).smpOk, (samplesLegal_of_exec hs h).smpWhole⟩
  · obtain ⟨-, -, -, hn, hiter⟩ := (frame_of_exec h).window hi
    have hnot : ¬ s.sampling := fun ⟨k, hk⟩ => seq_ne_busy_of_exec h hi k hk
    rw [hn, hiter]
    exact ⟨hs.smpOk, fun _ => hs.smpWhole hnot⟩

theorem inv_of_exec : t.Inv where
  capRom := by
    have hf := frame_of_exec h
    rw [hf.cap, hf.cfg, hs.capRom]
  seqOk := seqLegal_of_exec hs h
  calOk := calRests_of_exec hs h
  smpOk := (samples_of_exec hs h).1
  smpWhole := (samples_of_exec hs h).2
  histOk := legal_of_exec hs h
  seqCounts := transfersSinceEnd_of_exec hs h

end Exec

/-- The invariant says nothing of the command port. -/
theorem State.Inv.wordTaken {s : State} (hs : s.Inv) : s.wordTaken.Inv :=
  ⟨hs.capRom, hs.seqOk, hs.calOk, hs.smpOk, hs.smpWhole, hs.histOk, hs.seqCounts⟩

/-- A rejected word ends IllegalCommand with no transfer (60_exceptions.md R208). -/
theorem State.Inv.raise_idle {s : State} (hs : s.Inv) (hidle : s.seq = .idle) (e : CmdError) : (s.raise e).Inv where
  capRom := hs.capRom
  seqOk := (State.seqLegal_idle hidle).mp hs.seqOk
  calOk _ := hs.calOk fun ⟨k, hk⟩ => seq_ne_busy_of_idle hidle _ k hk
  smpOk := hs.smpOk
  smpWhole _ := hs.smpWhole fun ⟨k, hk⟩ => seq_ne_busy_of_idle hidle _ k hk
  histOk := by
    intro ev hmem
    obtain hold | hend := List.mem_append.mp hmem
    · exact hs.histOk ev hold
    · rw [List.mem_singleton.mp hend]
      exact legal_commandEnd e.status_ne_sampleDiscarded
  seqCounts := transfersSinceEnd_append_end _ _

/-- Settles O53. -/
theorem resetMeetsInvariant : Obligations.ResetMeetsInvariant := fun _ =>
  { capRom := rfl
    seqOk := rfl
    calOk := fun _ => .inl ⟨rfl, rfl⟩
    smpOk := ⟨le_rfl, Nat.zero_le 19⟩
    smpWhole := fun _ => .inl rfl
    histOk := nofun
    seqCounts := rfl }

/-- Settles O54: a step waits, rejects a word, or is the step of a command. -/
theorem stepKeepsInvariant : Obligations.StepKeepsInvariant := by
  intro s t hs h
  obtain ⟨-, -, hstep⟩ | ⟨w, ws, e, hidle, -, -, hstep⟩ | ⟨w, ws, i, -, -, -, hstep⟩ | ⟨c, k, -, hstep⟩ := step_cases s
  all_goals rw [hstep] at h
  · obtain rfl := Host.Outcome.next.inj h
    exact hs
  · obtain rfl := Host.Outcome.next.inj h
    exact hs.wordTaken.raise_idle hidle _
  · exact inv_of_exec hs.wordTaken h
  · exact inv_of_exec hs h

/-! ### The machine never stops -/

theorem exec_idle_next {s : State} (i : Instr) (hidle : s.seq = .idle) : ∃ t, exec i s = .next t := by
  obtain ⟨body, hi⟩ | ⟨start, resume, hi⟩ := exec_shape i
  · exact ⟨body s, (hi s).trans (State.inOneStep_idle hidle)⟩
  · exact ⟨start s, (hi s).trans (State.inSteps_idle hidle)⟩

/-- The sequencer of a state of the invariant stands in a command of several transfers, which goes on. -/
theorem exec_busy_next {s : State} {c : Instr} {k : Nat} (hs : s.Inv) (hbusy : s.seq = .busy c k) :
    ∃ t, exec c s = .next t := by
  have hlegal := hs.seqOk
  rw [State.seqLegal, hbusy] at hlegal
  cases c with
  | calibrate => exact ⟨_, (exec_calibrate s).trans (State.inSteps_busy hbusy)⟩
  | getCoordinates => exact ⟨_, (exec_getCoordinates s).trans (State.inSteps_busy hbusy)⟩
  | gestureDetect => exact ⟨_, (exec_gestureDetect s).trans (State.inSteps_busy hbusy)⟩
  | hardReset => exact ⟨_, (exec_hardReset s).trans (State.inSteps_busy hbusy)⟩
  | _ => exact hlegal.elim

/-- Settles O55. -/
theorem machineNeverStops : Obligations.MachineNeverStops := by
  intro s hs
  obtain ⟨-, -, hstep⟩ | ⟨w, ws, e, -, -, -, hstep⟩ | ⟨w, ws, i, hidle, -, -, hstep⟩ | ⟨c, k, hbusy, hstep⟩ :=
    step_cases s
  · exact ⟨_, hstep⟩
  · exact ⟨_, hstep⟩
  · exact hstep ▸ exec_idle_next i hidle
  · exact hstep ▸ exec_busy_next hs hbusy

end Sys2Proof.Machine
end

section
/-! PROOFS. What a step of CALIBRATE does to CAL_STATE (42_calibration.md section 1, R144), when it can succeed
(41_decoder.md R115), and what ends a GESTURE_DETECT (43_gesture.md R166). -/

namespace Sys2Proof.Machine

/-! ### The transitions of CAL_STATE -/

/-- R144's rows for a step of CALIBRATE. -/
def CalTransition (s t : State) : Prop :=
  (s.seq = .idle ∧ t.calAttempt = 0 ∧
      (t.calState = CalState.factoryModeRequested.code ∨ t.calState = CalState.aborted.code)) ∨
    (s.calState = CalState.factoryModeRequested.code ∧ t.calState = CalState.polling.code ∧ t.calAttempt = 1) ∨
    (s.calState = CalState.polling.code ∧ t.calState = CalState.polling.code ∧
      s.calAttempt.toNat < 100 ∧ t.calAttempt.toNat = s.calAttempt.toNat + 1) ∨
    (s.calState = CalState.polling.code ∧ t.calState = CalState.calibrated.code ∧ t.calAttempt = s.calAttempt) ∨
    (s.calState = CalState.polling.code ∧ t.calState = CalState.aborted.code ∧ t.calAttempt = s.calAttempt) ∨
    (s.calState = CalState.polling.code ∧ s.calAttempt = 100 ∧ t.calState = CalState.timedOut.code ∧
      t.calAttempt = s.calAttempt)

/-- A step leaves the calibration registers as they are. -/
def CalKept (s t : State) : Prop :=
  t.calState = s.calState ∧ t.calAttempt = s.calAttempt

theorem calTransition_calRequest {s : State} (hidle : s.seq = .idle) : CalTransition s s.calRequest := by
  obtain ⟨-, h⟩ | ⟨d, -, h⟩ := s.calRequest_cases
  · exact .inl ⟨hidle, h ▸ rfl, .inl (h ▸ rfl)⟩
  · exact .inl ⟨hidle, h ▸ rfl, .inr (h ▸ rfl)⟩

/-- The settle delay leads to poll 1, an inter-poll delay to one poll more. -/
theorem calTransition_calDelay {s : State} {k : Nat} (ms : Nat) (hodd : k % 2 = 1) (hmax : k ≤ 200)
    (hattempt : s.calAttempt.toNat = k / 2)
    (hstate : s.calState = if k = 1 then CalState.factoryModeRequested.code else CalState.polling.code) :
    CalTransition s (s.calDelay k ms) := by
  have hnext : (s.calAttempt + 1).toNat = s.calAttempt.toNat + 1 := toNat_calAttempt_add_one (by omega)
  by_cases h1 : k = 1
  · refine .inr (.inl ⟨hstate.trans (if_pos h1), rfl, BitVec.eq_of_toNat_eq ?_⟩)
    subst h1
    exact hnext.trans (by rw [hattempt]; rfl)
  · exact .inr (.inr (.inl ⟨hstate.trans (if_neg h1), rfl, by omega, hnext⟩))

/-- A poll that goes on changes neither register. -/
theorem calTransition_calPoll {s : State} (k : Nat) (hattempt : s.calAttempt.toNat ≤ 100)
    (hstate : s.calState = CalState.polling.code) : CalKept s (s.calPoll k) ∨ CalTransition s (s.calPoll k) := by
  obtain ⟨b, -, -, h⟩ | ⟨b, -, -, -, h⟩ | ⟨b, -, -, hlast, h⟩ | ⟨d, -, h⟩ := s.calPoll_cases k
  all_goals rw [h]
  · exact .inr (.inr (.inr (.inr (.inl ⟨hstate, rfl, rfl⟩))))
  · exact .inl ⟨rfl, rfl⟩
  · exact .inr (.inr (.inr (.inr (.inr (.inr ⟨hstate, BitVec.eq_of_toNat_eq (le_antisymm hattempt hlast), rfl, rfl⟩)))))
  · exact .inr (.inr (.inr (.inr (.inr (.inl ⟨hstate, rfl, rfl⟩)))))

theorem calTransition_of_exec {s t : State} (hs : s.Inv) (h : exec .calibrate s = .next t) :
    CalKept s t ∨ CalTransition s t := by
  obtain ⟨hidle | ⟨k, hbusy⟩, rfl⟩ := exec_calibrate_next h
  · rw [State.position_idle hidle]
    exact .inr (calTransition_calRequest hidle)
  · obtain ⟨-, hpos, hmax, hattempt, hstate⟩ := (State.seqLegal_calibrate hbusy).mp hs.seqOk
    rw [State.position_busy hbusy]
    obtain ⟨rfl, -⟩ | ⟨hodd, h⟩ | ⟨-, heven, h⟩ := State.calResume_cases k s
    · contradiction
    · exact h ▸ .inr (calTransition_calDelay _ hodd hmax hattempt hstate)
    · exact h ▸ calTransition_calPoll k (by omega) (hstate.trans (if_neg (by omega)))

/-- Settles O29: only CALIBRATE writes the two registers. -/
theorem calStateTransitions : Obligations.CalStateTransitions := by
  intro s t i hs h
  by_cases hi : i = .calibrate
  · subst hi
    exact (calTransition_of_exec hs h).imp_right fun ht => ⟨rfl, ht⟩
  · exact .inl ((frame_of_exec h).cal hi)

/-! ### A working value outside the masks -/

/-- No byte decodes to a value with a bit outside both masks (41_decoder.md R115). -/
theorem decodeDevMode_ne_working {c : Config} (b : Byte)
    (hout : c.devModeWorking &&& ~~~(c.devModeBitMask &&& c.devModeBitPosition) ≠ 0) :
    decodeDevMode c b ≠ c.devModeWorking :=
  fun heq => hout (heq ▸ decodeDevMode_and_not c b)

/-- Settles O32: of the ends of a poll only the success asks for the working value. -/
theorem calibrateNeedsReachableMode : Obligations.CalibrateNeedsReachableMode := by
  intro s t hout h hidle
  obtain ⟨-, rfl⟩ := exec_calibrate_next h
  obtain ⟨-, h⟩ | ⟨-, h⟩ | ⟨-, -, h⟩ := State.calResume_cases s.position s
  all_goals rw [h] at hidle ⊢
  · obtain ⟨-, hr⟩ | ⟨d, -, hr⟩ := s.calRequest_cases
    · rw [hr] at hidle
      contradiction
    · exact .inl (hr ▸ ⟨rfl, rfl⟩)
  · contradiction
  · obtain ⟨b, -, hworking, -⟩ | ⟨b, -, -, -, hp⟩ | ⟨b, -, -, hlast, hp⟩ | ⟨d, -, hp⟩ := s.calPoll_cases s.position
    · exact absurd hworking (decodeDevMode_ne_working b[0] hout)
    · rw [hp] at hidle
      contradiction
    · exact .inr (hp ▸ ⟨rfl, rfl, hlast⟩)
    · exact .inl (hp ▸ ⟨rfl, rfl⟩)

/-! ### The results of GESTURE_DETECT -/

/-- A window's kind is one the classifier answers (43_gesture.md R165, R166). -/
theorem gestureCode_gestureResult (s : State) :
    gestureCode s.gestureResult = 1 ∨ gestureCode s.gestureResult = 2 ∨ gestureCode s.gestureResult = 4 ∨
      gestureCode s.gestureResult = 7 := by
  unfold State.gestureResult
  split
  · exact .inr (.inr (.inr rfl))
  next first last _ =>
    obtain h | h | h | h := classify_cases (delta first.1 last.1) (delta first.2 last.2)
    all_goals rw [h]
    · exact .inr (.inr (.inr rfl))
    · exact .inr (.inl rfl)
    · exact .inr (.inr (.inl rfl))
    · exact .inl rfl

/-- GESTURE_DETECT ends only after an iteration. -/
theorem gestureNext_ends {v : State} (k : Nat) (hidle : (v.gestureNext k).seq = .idle) :
    (v.gestureNext k).status = 0x00 ∧
      ((v.gestureNext k).result = .gesture 1 ∨ (v.gestureNext k).result = .gesture 2 ∨
        (v.gestureNext k).result = .gesture 4 ∨ (v.gestureNext k).result = .gesture 7) := by
  obtain ⟨-, h⟩ | ⟨-, h⟩ := v.gestureNext_cases k
  all_goals rw [h] at hidle ⊢
  · contradiction
  · exact ⟨rfl, (gestureCode_gestureResult v).imp (congrArg _) (.imp (congrArg _) (.imp (congrArg _) (congrArg _)))⟩

/-- Settles O44. -/
theorem gestureResultKinds : Obligations.GestureResultKinds := by
  intro s t hunit h hidle
  obtain ⟨hs, habsent, -⟩ | ⟨u, -, rfl⟩ := exec_gestureDetect_next h
  · rw [hunit hs] at habsent
    contradiction
  · rw [State.gestureResume_eq] at hidle ⊢
    split at hidle
    · contradiction
    · exact gestureNext_ends _ hidle
    · exact gestureNext_ends _ hidle

end Sys2Proof.Machine
end

section
/-! PROOFS. What no command reads: the history (10_state.md section 7) and the registers that have no value yet
(10_state.md section 9). Two runs that differ only there take the same step; each of the two claims is one reading of
that. -/

namespace Sys2Proof.Machine

/-! ### Two states that differ only in what is not read -/

/-- The registers in which two runs may differ. -/
structure Hidden where
  hist : List Event
  status : BitVec 8
  result : Payload
  giCache : Vector Byte 6
  smpX : Vector Coord 19
  smpY : Vector Coord 19

/-- `s` with these values in them. -/
def State.patch (s : State) (p : Hidden) : State :=
  { s with hist := p.hist, status := p.status, result := p.result, giCache := p.giCache, smpX := p.smpX,
           smpY := p.smpY }

/-- What they hold in `s`. -/
def State.hidden (s : State) : Hidden :=
  ⟨s.hist, s.status, s.result, s.giCache, s.smpX, s.smpY⟩

/-- The events of a step, appended to the history. -/
def Hidden.append (p : Hidden) (evs : List Event) : Hidden :=
  { p with hist := p.hist ++ evs }

theorem Hidden.append_nil (p : Hidden) : p.append [] = p := by
  rw [Hidden.append, List.append_nil]

/-- Two runs from the histories `h` and `h'` have appended the same events, and differ at most in the output registers,
the cache while it is not valid, and the sample window; where `output`, `cache` or `window` holds, not there either. -/
structure Alike (h h' : List Event) (output cache window : Prop) (s s' : State) : Prop where
  rest : s' = s.patch s'.hidden
  hist : ∃ evs, s.hist = h ++ evs ∧ s'.hist = h' ++ evs
  output : output → s'.status = s.status ∧ s'.result = s.result
  cache : cache ∨ s.giValid = true → s'.giCache = s.giCache
  window : window → s'.smpX = s.smpX ∧ s'.smpY = s.smpY

section Alike

variable {h h' : List Event} {output cache window : Prop} {s s' : State}

theorem Alike.weaken {output' window' : Prop} (ha : Alike h h' output cache window s s')
    (ho : output' → output) (hw : window' → window) : Alike h h' output' cache window' s s' :=
  { ha with output := ha.output ∘ ho, window := ha.window ∘ hw }

/-- Both runs see the same of what does not depend on those registers. -/
theorem Alike.congr {α : Sort _} (ha : Alike h h' output cache window s s') (g : State → α)
    (hg : ∀ p, g (s.patch p) = g s) : g s' = g s := by
  rw [ha.rest]
  exact hg _

theorem Alike.cfg_eq (ha : Alike h h' output cache window s s') : s'.cfg = s.cfg :=
  ha.congr State.cfg fun _ => rfl

theorem Alike.busReply_eq (ha : Alike h h' output cache window s s') (n : Nat) : s'.busReply n = s.busReply n :=
  ha.congr (State.busReply · n) fun _ => rfl

theorem Alike.writeReply_eq (ha : Alike h h' output cache window s s') : s'.writeReply = s.writeReply :=
  ha.congr State.writeReply fun _ => rfl

theorem Alike.pinReply_eq (ha : Alike h h' output cache window s s') : s'.pinReply = s.pinReply :=
  ha.congr State.pinReply fun _ => rfl

/-- Both runs make the update `f`, which appends events and touches nothing in which they differ. -/
theorem Alike.map {evs : List Event} (ha : Alike h h' output cache window s s') (f : State → State)
    (hf : ∀ p, f (s.patch p) = (f s).patch (p.append evs)) (hvalid : (f s).giValid = s.giValid) :
    Alike h h' output cache window (f s) (f s') := by
  have hself : f s = (f s).patch (s.hidden.append evs) := hf s.hidden
  have hother : f s' = (f s).patch (s'.hidden.append evs) := by
    conv_lhs => rw [ha.rest]
    exact hf _
  obtain ⟨evs', hh, hh'⟩ := ha.hist
  refine ⟨?_, ⟨evs' ++ evs, ?_, ?_⟩, fun ho => ?_, fun hc => ?_, fun hw => ?_⟩
  · rw [hother]
    rfl
  · rw [hself, ← List.append_assoc, ← hh]
    rfl
  · rw [hother, ← List.append_assoc, ← hh']
    rfl
  · obtain ⟨hstatus, hresult⟩ := ha.output ho
    rw [hself, hother]
    exact ⟨hstatus, hresult⟩
  · rw [hvalid] at hc
    rw [hself, hother]
    exact ha.cache hc
  · obtain ⟨hx, hy⟩ := ha.window hw
    rw [hself, hother]
    exact ⟨hx, hy⟩

/-- The same for an update that appends nothing. -/
theorem Alike.silent (ha : Alike h h' output cache window s s') (f : State → State)
    (hf : ∀ p, f (s.patch p) = (f s).patch p) (hvalid : (f s).giValid = s.giValid) :
    Alike h h' output cache window (f s) (f s') :=
  ha.map (evs := []) f (fun p => p.append_nil.symm ▸ hf p) hvalid

theorem Alike.afterRead (ha : Alike h h' output cache window s s') (addr : Byte) (n : Nat) :
    Alike h h' output cache window (s.afterRead addr n) (s'.afterRead addr n) :=
  ha.map (evs := [.busWriteRead s.cfg.devAddr [addr] n (s.busReply n).outcome]) (State.afterRead · addr n)
    (fun _ => rfl) rfl

theorem Alike.afterWrite (ha : Alike h h' output cache window s s') (addr : Byte) (data : List Byte) :
    Alike h h' output cache window (s.afterWrite addr data) (s'.afterWrite addr data) :=
  ha.map (evs := [.busWrite s.cfg.devAddr (addr :: data) s.writeReply]) (State.afterWrite · addr data)
    (fun _ => rfl) rfl

theorem Alike.afterPin (ha : Alike h h' output cache window s s') (l : Level) :
    Alike h h' output cache window (s.afterPin l) (s'.afterPin l) :=
  ha.map (evs := [.pin l s.pinReply]) (State.afterPin · l) (fun _ => rfl) rfl

theorem Alike.delay (ha : Alike h h' output cache window s s') (ms : Nat) :
    Alike h h' output cache window (s.delay ms) (s'.delay ms) :=
  ha.map (evs := [.delay ms]) (State.delay · ms) (fun _ => rfl) rfl

theorem Alike.setCal (ha : Alike h h' output cache window s s') (c : CalState) :
    Alike h h' output cache window (s.setCal c) (s'.setCal c) :=
  ha.silent (State.setCal · c) (fun _ => rfl) rfl

/-- Loading the cache leaves both runs with the same one. -/
theorem Alike.loadGi (ha : Alike h h' output cache window s s') (b : Vector Byte 6) :
    Alike h h' output cache window (s.loadGi b) (s'.loadGi b) where
  rest := by
    conv_lhs => rw [ha.rest]
    rfl
  hist := ha.hist
  output := ha.output
  cache _ := rfl
  window := ha.window

/-- At the end of a command both runs have the same output registers. -/
theorem Alike.endCommand (ha : Alike h h' output cache window s s') (st : Status) (r : Payload) :
    Alike h h' True cache window (s.endCommand st r) (s'.endCommand st r) where
  rest := by
    conv_lhs => rw [ha.rest]
    rfl
  hist := by
    obtain ⟨evs, hh, hh'⟩ := ha.hist
    exact ⟨evs ++ [.commandEnd st.code], by rw [State.endCommand_hist, hh, List.append_assoc],
      by rw [State.endCommand_hist, hh', List.append_assoc]⟩
  output _ := ⟨rfl, rfl⟩
  cache := ha.cache
  window := ha.window

end Alike

/-! ### The primitives in two runs -/

/-- Two runs after a step: where it ends a command the output registers hold the same values, and while GESTURE_DETECT
runs the sample windows do. -/
def AlikeAfter (h h' : List Event) (output cache window : Prop) (t t' : State) : Prop :=
  Alike h h' (output ∨ t.seq = .idle) cache (window ∨ t.sampling) t t'

section Steps

variable {h h' : List Event} {output cache window : Prop} {s s' : State} (ha : Alike h h' output cache window s s')
include ha

theorem Alike.ends (st : Status) (r : Payload) :
    AlikeAfter h h' output cache window (s.endCommand st r) (s'.endCommand st r) := by
  refine (ha.endCommand st r).weaken (fun _ => trivial) ?_
  rintro (hw | ⟨k, hk⟩)
  · exact hw
  · contradiction

theorem Alike.ret (r : Payload) : AlikeAfter h h' output cache window (s.ret r) (s'.ret r) :=
  ha.ends .ok r

theorem Alike.raise (e : CmdError) : AlikeAfter h h' output cache window (s.raise e) (s'.raise e) :=
  ha.ends e.status e.info

/-- GESTURE_DETECT goes on where the windows are the same; any other command goes on in any case. -/
theorem Alike.advance {c : Instr} (k : Nat) (hw : c = .gestureDetect → window) :
    AlikeAfter h h' output cache window (s.advance c k) (s'.advance c k) := by
  refine (ha.silent (State.advance · c k) (fun _ => rfl) rfl).weaken ?_ ?_
  · rintro (ho | hidle)
    · exact ho
    · contradiction
  · rintro (hw' | ⟨k', hk⟩)
    · exact hw'
    · exact hw (Seq.busy.inj hk).1

theorem Alike.endChipId (b : Byte) : AlikeAfter h h' output cache window (s.endChipId b) (s'.endChipId b) := by
  rw [State.endChipId, State.endChipId, ha.cfg_eq]
  cases decodeChipId s.cfg b with
  | ok v => exact ha.ret _
  | error v => exact ha.raise _

/-- Two runs read the same bytes, or fail alike. -/
theorem Alike.readThen {addr : Byte} {n : Nat} {rest : Vector Byte n → State → State}
    (hrest : ∀ b u u', Alike h h' output cache window u u' →
      AlikeAfter h h' output cache window (rest b u) (rest b u')) :
    AlikeAfter h h' output cache window (s.readThen addr n rest) (s'.readThen addr n rest) := by
  rw [State.readThen, State.readThen, ha.busReply_eq]
  cases s.busReply n with
  | ok b => exact hrest b _ _ (ha.afterRead addr n)
  | err d => exact (ha.afterRead addr n).raise _

theorem Alike.writeThen {addr : Byte} {data : List Byte} {rest : State → State}
    (hrest : ∀ u u', Alike h h' output cache window u u' → AlikeAfter h h' output cache window (rest u) (rest u')) :
    AlikeAfter h h' output cache window (s.writeThen addr data rest) (s'.writeThen addr data rest) := by
  rw [State.writeThen, State.writeThen, ha.writeReply_eq]
  cases s.writeReply with
  | ok => exact hrest _ _ (ha.afterWrite addr data)
  | err d => exact (ha.afterWrite addr data).raise _

theorem Alike.pinThen {l : Level} {rest : State → State}
    (hrest : ∀ u u', Alike h h' output cache window u u' → AlikeAfter h h' output cache window (rest u) (rest u')) :
    AlikeAfter h h' output cache window (s.pinThen l rest) (s'.pinThen l rest) := by
  rw [State.pinThen, State.pinThen, ha.pinReply_eq]
  cases s.pinReply with
  | ok => exact hrest _ _ (ha.afterPin l)
  | err => exact (ha.afterPin l).raise _

/-- A check that both runs make alike. -/
theorem Alike.checked {c : Prop} [Decidable c] {u u' : State} {e : CmdError}
    (hu : c → AlikeAfter h h' output cache window u u') :
    AlikeAfter h h' output cache window (if c then u else s.raise e) (if c then u' else s'.raise e) := by
  split
  · exact hu ‹_›
  · exact ha.raise e

/-! ### CALIBRATE in two runs -/

theorem Alike.calAbort (d : BusErrDetail) : AlikeAfter h h' output cache window (s.calAbort d) (s'.calAbort d) :=
  (ha.setCal .aborted).raise _

theorem Alike.calRequest : AlikeAfter h h' output cache window s.calRequest s'.calRequest := by
  have hu := (ha.silent State.calBegin (fun _ => rfl) rfl).afterWrite regDevMode [s.cfg.devModeFactory]
  rw [State.calRequest, State.calRequest, ha.writeReply_eq, ha.cfg_eq]
  cases s.writeReply with
  | ok => exact hu.advance 1 nofun
  | err d => exact hu.calAbort d

theorem Alike.calDelay (k ms : Nat) : AlikeAfter h h' output cache window (s.calDelay k ms) (s'.calDelay k ms) :=
  ((ha.delay ms).silent State.calNextPoll (fun _ => rfl) rfl).advance (c := .calibrate) (k + 1) nofun

theorem Alike.calPoll (k : Nat) : AlikeAfter h h' output cache window (s.calPoll k) (s'.calPoll k) := by
  have hu := ha.afterRead regDevMode 1
  rw [State.calPoll, State.calPoll, ha.busReply_eq, ha.cfg_eq, ha.congr State.calAttempt fun _ => rfl]
  cases s.busReply 1 with
  | ok b =>
    dsimp only
    split
    · exact (hu.setCal .calibrated).ret _
    · split
      · exact hu.advance (k + 1) nofun
      · exact (hu.setCal .timedOut).raise _
  | err d => exact hu.calAbort d

theorem Alike.calResume (k : Nat) :
    AlikeAfter h h' output cache window (State.calResume k s) (State.calResume k s') := by
  unfold State.calResume
  split
  · exact ha.calRequest
  · split
    · exact ha.calDelay k _
    · split
      · exact ha.calDelay k _
      · exact ha.calPoll k

/-! ### GET_COORDINATES in two runs -/

theorem Alike.coordRecord : ∃ outcome u u', s.coordRecord = (outcome, u) ∧ s'.coordRecord = (outcome, u') ∧
    Alike h h' output cache window u u' := by
  have hu := (ha.afterRead regTouch1 6).silent (State.setRecordDue · false) (fun _ => rfl) rfl
  rw [State.coordRecord, State.coordRecord, ha.busReply_eq]
  cases s.busReply 6 with
  | ok r => exact ⟨_, _, _, rfl, rfl, hu⟩
  | err d => exact ⟨_, _, _, rfl, rfl, hu⟩

theorem Alike.coordCount : ∃ outcome u u', s.coordCount = (outcome, u) ∧ s'.coordCount = (outcome, u') ∧
    Alike h h' output cache window u u' := by
  have hread := ha.afterRead regTouchStatus 1
  have hcount := hread.silent State.countPoll (fun _ => rfl) rfl
  rw [State.coordCount, State.coordCount, ha.busReply_eq, ha.cfg_eq, hcount.congr State.budgetSpent fun _ => rfl]
  cases s.busReply 1 with
  | ok b =>
    dsimp only
    split
    · exact ⟨_, _, _, rfl, rfl, hcount.silent (State.setRecordDue · true) (fun _ => rfl) rfl⟩
    · split
      · exact ⟨_, _, _, rfl, rfl, hcount⟩
      · exact ⟨_, _, _, rfl, rfl, hcount⟩
  | err d => exact ⟨_, _, _, rfl, rfl, hread⟩

theorem Alike.coordTransfer : ∃ outcome u u', s.coordTransfer = (outcome, u) ∧ s'.coordTransfer = (outcome, u') ∧
    Alike h h' output cache window u u' := by
  rw [State.coordTransfer, State.coordTransfer, ha.congr State.recordDue fun _ => rfl]
  split
  · exact ha.coordRecord
  · exact ha.coordCount

theorem Alike.coordResume (k : Nat) :
    AlikeAfter h h' output cache window (State.coordResume k s) (State.coordResume k s') := by
  obtain ⟨outcome, u, u', hs, hs', hu⟩ := ha.coordTransfer
  rw [State.coordResume_eq, State.coordResume_eq, hs, hs']
  cases outcome with
  | more => exact hu.advance (k + 1) nofun
  | sample x y => exact hu.ret _
  | failed e => exact hu.raise e

theorem Alike.coordEnter : Alike h h' output cache window s.coordEnter s'.coordEnter :=
  ha.silent State.coordEnter (fun _ => rfl) rfl

/-! ### HARD_RESET in two runs -/

theorem Alike.hardResetResume (k : Nat) :
    AlikeAfter h h' output cache window (State.hardResetResume k s) (State.hardResetResume k s') := by
  unfold State.hardResetResume
  split
  · exact ha.pinThen fun u u' hu => hu.advance 1 nofun
  · split
    · exact (ha.delay _).advance 2 nofun
    · exact ha.pinThen fun u u' hu => hu.ret _

/-- The GestureInit cache goes out only where it is valid, and there it is the same in both runs. -/
theorem Alike.giWrite {rest : State → State}
    (hrest : ∀ u u', Alike h h' output cache window u u' → AlikeAfter h h' output cache window (rest u) (rest u')) :
    AlikeAfter h h' output cache window
      (if s.giValid then s.writeThen (regGestureInit s.cfg) s.giCache.toList rest else s.raise .cacheEmpty)
      (if s'.giValid then s'.writeThen (regGestureInit s'.cfg) s'.giCache.toList rest else s'.raise .cacheEmpty) := by
  rw [ha.congr State.giValid fun _ => rfl, ha.cfg_eq]
  refine ha.checked fun hvalid => ?_
  rw [ha.cache (.inr hvalid)]
  exact ha.writeThen hrest

/-- The window is cleared at the entry of GESTURE_DETECT, to the same values in both runs (43_gesture.md R160). -/
theorem Alike.gestureEnter : Alike h h' output cache True s.gestureEnter s'.gestureEnter := by
  have henv : s'.env = s.env := ha.congr State.env fun _ => rfl
  rw [State.gestureEnter_eq_withGesture, State.gestureEnter_eq_withGesture, henv]
  refine ⟨?_, ha.hist, ha.output, ha.cache, fun _ => ⟨rfl, rfl⟩⟩
  conv_lhs => rw [ha.rest]
  rfl

end Steps

/-! ### GESTURE_DETECT in two runs with the same window -/

section Gesture

variable {h h' : List Event} {output cache : Prop} {s s' : State} (ha : Alike h h' output cache True s s')
include ha

theorem Alike.gestureResult_eq : s'.gestureResult = s.gestureResult := by
  obtain ⟨hx, hy⟩ := ha.window trivial
  have henv : s'.env = s.env := ha.congr State.env fun _ => rfl
  have hn : s'.smpN = s.smpN := ha.congr State.smpN fun _ => rfl
  have hat (i : Nat) : s'.sampleAt i = s.sampleAt i := by
    rw [State.sampleAt, State.sampleAt, hx, hy, henv]
  rw [State.gestureResult, State.gestureResult, State.firstLast, State.firstLast, hat, hat, hat, hn, ha.cfg_eq]

theorem Alike.gestureNext (k : Nat) : AlikeAfter h h' output cache True (s.gestureNext k) (s'.gestureNext k) := by
  rw [State.gestureNext, State.gestureNext, ha.gestureResult_eq, ha.congr State.smpIter fun _ => rfl]
  split
  · exact (ha.silent State.startIteration (fun _ => rfl) rfl).advance (k + 1) fun _ => trivial
  · exact ha.ret _

/-- A sample goes to the same entry in both runs. -/
theorem Alike.putSample (i : Nat) (x y : Coord) :
    Alike h h' output cache True (s.putSample i x y) (s'.putSample i x y) where
  rest := by
    rw [ha.rest]
    rfl
  hist := ha.hist
  output := ha.output
  cache := ha.cache
  window _ := by
    obtain ⟨hx, hy⟩ := ha.window trivial
    have hentry : s'.sampleEntry i = s.sampleEntry i := ha.congr (State.sampleEntry · i) fun _ => rfl
    rw [State.putSample_smpX, State.putSample_smpY, State.putSample_smpX, State.putSample_smpY, hx, hy, hentry]
    exact ⟨rfl, rfl⟩

theorem Alike.gestureResume (k : Nat) :
    AlikeAfter h h' output cache True (State.gestureResume k s) (State.gestureResume k s') := by
  obtain ⟨outcome, u, u', hs, hs', hu⟩ := ha.coordTransfer
  rw [State.gestureResume_eq, State.gestureResume_eq, hs, hs', ha.congr State.gestureIteration fun _ => rfl]
  cases outcome with
  | more => exact hu.advance (k + 1) fun _ => trivial
  | sample x y => exact (hu.putSample _ x y).gestureNext k
  | failed e =>
    exact (hu.map (State.emit · (.sampleDiscarded s.gestureIteration)) (fun _ => rfl) rfl).gestureNext k

end Gesture

/-! ### The step of any command in two runs -/

section Exec

variable {h h' : List Event} {output cache window : Prop} {i : Instr} {s s' t : State}

theorem exec_alike_of_inOneStep {body : State → State} (ha : Alike h h' output cache window s s')
    (hi : ∀ s, exec i s = s.inOneStep body) (hbody : AlikeAfter h h' output cache window (body s) (body s'))
    (hnext : exec i s = .next t) : ∃ t', exec i s' = .next t' ∧ AlikeAfter h h' output cache window t t' := by
  rw [hi] at hnext
  obtain ⟨hidle, rfl⟩ := State.inOneStep_next hnext
  have hidle' : s'.seq = .idle := (ha.congr State.seq fun _ => rfl).trans hidle
  exact ⟨body s', (hi s').trans (State.inOneStep_idle hidle'), hbody⟩

theorem exec_alike_of_inSteps {start : State → State} {resume : Nat → State → State}
    (ha : Alike h h' output cache window s s') (hi : ∀ s, exec i s = s.inSteps i start resume)
    (hstart : AlikeAfter h h' output cache window (start s) (start s'))
    (hresume : ∀ k, s.seq = .busy i k → AlikeAfter h h' output cache window (resume k s) (resume k s'))
    (hnext : exec i s = .next t) : ∃ t', exec i s' = .next t' ∧ AlikeAfter h h' output cache window t t' := by
  have hseq : s'.seq = s.seq := ha.congr State.seq fun _ => rfl
  rw [hi] at hnext
  obtain ⟨hidle, rfl⟩ | ⟨k, hbusy, rfl⟩ := State.inSteps_next hnext
  · exact ⟨start s', (hi s').trans (State.inSteps_idle (hseq.trans hidle)), hstart⟩
  · exact ⟨resume k s', (hi s').trans (State.inSteps_busy (hseq.trans hbusy)), hresume k hbusy⟩

/-- Where the windows are the same, what follows holds of runs in which they may differ. -/
theorem AlikeAfter.of_window (ha : AlikeAfter h h' output cache True s s') :
    AlikeAfter h h' output cache window s s' :=
  Alike.weaken ha id fun _ => .inl trivial

/-- Two runs that differ only in what is not read make the same step. -/
theorem exec_alike (ha : Alike h h' output cache window s s') (hwindow : s.sampling → window)
    (hnext : exec i s = .next t) : ∃ t', exec i s' = .next t' ∧ AlikeAfter h h' output cache window t t' := by
  cases i with
  | readReg addr => exact exec_alike_of_inOneStep ha (exec_readReg · addr) (ha.readThen fun _ _ _ hu => hu.ret _) hnext
  | writeReg addr data =>
    exact exec_alike_of_inOneStep ha (exec_writeReg · addr data)
      (ha.checked fun _ => ha.writeThen fun _ _ hu => hu.ret _) hnext
  | readAfterWrite addr len =>
    exact exec_alike_of_inOneStep ha (exec_readAfterWrite · addr len)
      (ha.checked fun _ => ha.readThen fun _ _ _ hu => hu.ret _) hnext
  | decodeTouch => exact exec_alike_of_inOneStep ha (exec_decodeTouch · ..) (ha.ret _) hnext
  | decodeMultitouch => exact exec_alike_of_inOneStep ha (exec_decodeMultitouch · ..) (ha.ret _) hnext
  | decodeGesture b => exact exec_alike_of_inOneStep ha (exec_decodeGesture · b) (ha.ret _) hnext
  | decodeChipId b => exact exec_alike_of_inOneStep ha (exec_decodeChipId · b) (ha.endChipId b) hnext
  | decodeDevMode b =>
    exact exec_alike_of_inOneStep ha (exec_decodeDevMode · b) (ha.cfg_eq ▸ ha.ret _) hnext
  | readDevMode =>
    exact exec_alike_of_inOneStep ha exec_readDevMode (ha.readThen fun _ _ _ hu => hu.cfg_eq ▸ hu.ret _) hnext
  | readGestureId => exact exec_alike_of_inOneStep ha exec_readGestureId (ha.readThen fun _ _ _ hu => hu.ret _) hnext
  | detectTouch =>
    exact exec_alike_of_inOneStep ha exec_detectTouch (ha.readThen fun _ _ _ hu => hu.cfg_eq ▸ hu.ret _) hnext
  | readTouch slot =>
    exact exec_alike_of_inOneStep ha (exec_readTouch · slot)
      (ha.checked fun _ => ha.readThen fun _ _ _ hu => hu.ret _) hnext
  | readMultitouch => exact exec_alike_of_inOneStep ha exec_readMultitouch (ha.readThen fun _ _ _ hu => hu.ret _) hnext
  | readChipId =>
    exact exec_alike_of_inOneStep ha exec_readChipId (ha.readThen fun b _ _ hu => hu.endChipId b[0]) hnext
  | readFirmwareId => exact exec_alike_of_inOneStep ha exec_readFirmwareId (ha.readThen fun _ _ _ hu => hu.ret _) hnext
  | readLibVersion => exact exec_alike_of_inOneStep ha exec_readLibVersion (ha.readThen fun _ _ _ hu => hu.ret _) hnext
  | calibrate =>
    exact exec_alike_of_inSteps ha exec_calibrate (ha.calResume 0) (fun k _ => ha.calResume k) hnext
  | getCoordinates =>
    exact exec_alike_of_inSteps ha exec_getCoordinates (ha.coordEnter.coordResume 0) (fun k _ => ha.coordResume k) hnext
  | gestureDetect =>
    refine exec_alike_of_inSteps ha exec_gestureDetect ?_ (fun k hbusy => ?_) hnext
    · rw [ha.cfg_eq]
      exact ha.checked fun _ => (ha.gestureEnter.gestureResume 0).of_window
    · exact ((ha.weaken id fun _ => hwindow ⟨k, hbusy⟩).gestureResume k).of_window
  | giRead =>
    exact exec_alike_of_inOneStep ha exec_giRead
      (by rw [ha.cfg_eq]; exact ha.readThen fun b _ _ hu => (hu.loadGi b).ret _) hnext
  | giSet => exact exec_alike_of_inOneStep ha (exec_giSet · ..) ((ha.loadGi _).ret _) hnext
  | giWrite => exact exec_alike_of_inOneStep ha exec_giWrite (ha.giWrite fun _ _ hu => hu.ret _) hnext
  | getCapabilities =>
    exact exec_alike_of_inOneStep ha exec_getCapabilities (ha.congr State.cap (fun _ => rfl) ▸ ha.ret _) hnext
  | hardReset =>
    exact exec_alike_of_inSteps ha exec_hardReset
      (by rw [ha.cfg_eq]; exact ha.checked fun _ => ha.hardResetResume 0) (fun k _ => ha.hardResetResume k) hnext

/-- Two runs at the command port, or in a command. -/
theorem step_alike (ha : Alike h h' output cache window s s') (hwindow : s.sampling → window)
    (hnext : step s = .next t) :
    ∃ t', step s' = .next t' ∧
      (AlikeAfter h h' output cache window t t' ∨ t = s ∧ t' = s' ∧ Alike h h' output cache window t t') := by
  have hseq : s'.seq = s.seq := ha.congr State.seq fun _ => rfl
  have henv : s'.env = s.env := ha.congr State.env fun _ => rfl
  have htaken := ha.silent State.wordTaken (fun _ => rfl) rfl
  obtain ⟨hidle, hwords, hstep⟩ | ⟨w, ws, e, hidle, hwords, hdecode, hstep⟩ |
    ⟨w, ws, i, hidle, hwords, hdecode, hstep⟩ | ⟨c, k, hbusy, hstep⟩ := step_cases s
  all_goals rw [hstep] at hnext
  · obtain rfl := Host.Outcome.next.inj hnext
    exact ⟨s', step_waits (hseq.trans hidle) (henv ▸ hwords), .inr ⟨rfl, rfl, ha⟩⟩
  · obtain rfl := Host.Outcome.next.inj hnext
    exact ⟨_, by rw [step_word (hseq.trans hidle) (henv ▸ hwords), hdecode], .inl (htaken.raise _)⟩
  · obtain ⟨t', hexec, hafter⟩ := exec_alike htaken hwindow hnext
    exact ⟨t', (stepRunsDecodedCommand s' w ws i (hseq.trans hidle) (henv ▸ hwords) hdecode).trans hexec, .inl hafter⟩
  · obtain ⟨t', hexec, hafter⟩ := exec_alike ha hwindow hnext
    exact ⟨t', by rw [step_busy (hseq.trans hbusy), hexec], .inl hafter⟩

end Exec

/-! ### The obligations -/

/-- Two runs that are alike in all but the history. -/
theorem Alike.eq_withHist {h h' : List Event} {s s' : State} (ha : Alike h h' True True True s s') :
    ∃ evs, s.hist = h ++ evs ∧ s' = s.withHist (h' ++ evs) := by
  obtain ⟨evs, hh, hh'⟩ := ha.hist
  obtain ⟨hstatus, hresult⟩ := ha.output trivial
  obtain ⟨hx, hy⟩ := ha.window trivial
  refine ⟨evs, hh, ?_⟩
  rw [ha.rest, State.hidden, hh', hstatus, hresult, ha.cache (.inl trivial), hx, hy]
  rfl

/-- Settles O59: the second run starts with everything the same but the history. -/
theorem historyIsNotRead : Obligations.HistoryIsNotRead := by
  intro s t h hstep
  have ha : Alike s.hist h True True True s (s.withHist h) :=
    ⟨rfl, ⟨[], (List.append_nil _).symm, (List.append_nil _).symm⟩, fun _ => ⟨rfl, rfl⟩, fun _ => rfl,
      fun _ => ⟨rfl, rfl⟩⟩
  obtain ⟨t', hstep', hafter | ⟨-, -, hsame⟩⟩ := step_alike ha (fun _ => trivial) hstep
  · obtain ⟨evs, hh, rfl⟩ := (Alike.weaken hafter .inl .inl).eq_withHist
    exact ⟨evs, hh, hstep'⟩
  · obtain ⟨evs, hh, rfl⟩ := hsame.eq_withHist
    exact ⟨evs, hh, hstep'⟩

/-! ### States with the same mask -/

section Masked

variable {s : State}

theorem State.masked_giCache_of_valid (h : s.giValid = true) : s.masked.giCache = s.giCache :=
  if_pos h

theorem State.masked_giCache_of_not_valid (h : ¬ s.giValid = true) : s.masked.giCache = Vector.replicate 6 0 :=
  if_neg h

theorem State.masked_window_of_sampling (h : s.sampling) : s.masked.smpX = s.smpX ∧ s.masked.smpY = s.smpY := by
  obtain ⟨k, hk⟩ := h
  constructor <;> simp only [State.masked, hk]

theorem State.masked_window_of_not_sampling (h : ¬ s.sampling) :
    s.masked.smpX = Vector.replicate 19 0 ∧ s.masked.smpY = Vector.replicate 19 0 := by
  unfold State.masked
  constructor
  all_goals
    dsimp only
    split
    next k hk => exact absurd ⟨k, hk⟩ h
    next => rfl

/-- The mask hides what two runs may differ in. -/
theorem Alike.masked_eq {h : List Event} {output cache window : Prop} {s' : State}
    (ha : Alike h h output cache window s s') (hwindow : s.sampling → window) : s.masked = s'.masked := by
  obtain ⟨evs, hh, hh'⟩ := ha.hist
  have hvalid : s'.giValid = s.giValid := ha.congr State.giValid fun _ => rfl
  have hsampling : s'.sampling ↔ s.sampling := by
    rw [State.sampling, State.sampling, ha.congr State.seq fun _ => rfl]
  have hcache : s'.masked.giCache = s.masked.giCache := by
    by_cases hv : s.giValid = true
    · rw [State.masked_giCache_of_valid hv, State.masked_giCache_of_valid (hvalid.trans hv), ha.cache (.inr hv)]
    · rw [State.masked_giCache_of_not_valid hv, State.masked_giCache_of_not_valid (hvalid ▸ hv)]
  have hxy : s'.masked.smpX = s.masked.smpX ∧ s'.masked.smpY = s.masked.smpY := by
    by_cases hs : s.sampling
    · obtain ⟨hx, hy⟩ := State.masked_window_of_sampling hs
      obtain ⟨hx', hy'⟩ := State.masked_window_of_sampling (hsampling.mpr hs)
      obtain ⟨hwx, hwy⟩ := ha.window (hwindow hs)
      exact ⟨(hx'.trans hwx).trans hx.symm, (hy'.trans hwy).trans hy.symm⟩
    · obtain ⟨hx, hy⟩ := State.masked_window_of_not_sampling hs
      obtain ⟨hx', hy'⟩ := State.masked_window_of_not_sampling (mt hsampling.mp hs)
      exact ⟨hx'.trans hx.symm, hy'.trans hy.symm⟩
  calc s.masked
    _ = { s.masked with hist := s'.hist, giCache := s'.masked.giCache, smpX := s'.masked.smpX,
                        smpY := s'.masked.smpY } := by rw [hcache, hxy.1, hxy.2, hh', ← hh]; rfl
    _ = s'.masked := by
      rw [ha.rest]
      rfl

/-- Two states with the same mask are two runs that have appended nothing yet. -/
theorem alike_of_masked_eq {s' : State} (hm : s.masked = s'.masked) :
    Alike s.hist s.hist False False s.sampling s s' := by
  have hrest : s' = s.patch s'.hidden := by
    change s'.masked.patch s'.hidden = s.masked.patch s'.hidden
    rw [hm]
  have hhist : s.hist = s'.hist := (congrArg State.hist hm :)
  have hseq : s.seq = s'.seq := (congrArg State.seq hm :)
  have hvalid : s.giValid = s'.giValid := (congrArg State.giValid hm :)
  refine ⟨hrest, ⟨[], (List.append_nil _).symm, ?_⟩, False.elim, fun hc => ?_, fun hs => ?_⟩
  · rw [List.append_nil, hhist]
  · have hv := hc.resolve_left id
    rw [← State.masked_giCache_of_valid hv, ← State.masked_giCache_of_valid (hvalid ▸ hv), hm]
  · have hs' : s'.sampling := by
      rw [State.sampling, ← hseq]
      exact hs
    obtain ⟨hx, hy⟩ := State.masked_window_of_sampling hs
    obtain ⟨hx', hy'⟩ := State.masked_window_of_sampling hs'
    rw [← hx, ← hy, ← hx', ← hy', hm]
    exact ⟨rfl, rfl⟩

end Masked

/-! ### Only the end of a command writes the output registers (10_state.md R23) -/

theorem Transfer.output_eq {i : Instr} {s u : State} (h : Transfer i s u) :
    u.status = s.status ∧ u.result = s.result := by
  cases h <;> exact ⟨rfl, rfl⟩

theorem Writes.output_eq {i : Instr} {s u : State} (h : Writes i s u) : u.status = s.status ∧ u.result = s.result := by
  cases h <;> exact ⟨rfl, rfl⟩

/-- An end appends CommandEnd, so a step that ends a command shows in the history. -/
theorem output_eq_of_exec {i : Instr} {s t : State} (h : exec i s = .next t)
    (hnot : ¬ (t.seq = .idle ∧ t.hist ≠ s.hist)) : t.status = s.status ∧ t.result = s.result := by
  have hbusy : t.seq ≠ .idle := by
    obtain ⟨-, -, hseq, -⟩ | ⟨-, -, -, -, hidle, -, hhist⟩ := stepLog_of_exec h
    · rw [hseq]
      nofun
    · exact absurd ⟨hidle, by simp [hhist]⟩ hnot
  obtain ⟨htransfer, hwrites, rfl⟩ | ⟨-, -, -, rfl⟩ := effect_of_exec h
  · obtain ⟨hst, hr⟩ := htransfer.output_eq
    obtain ⟨hst', hr'⟩ := hwrites.output_eq
    exact ⟨hst'.trans hst, hr'.trans hr⟩
  · exact absurd rfl hbusy

theorem output_eq_of_step {s t : State} (h : step s = .next t) (hnot : ¬ (t.seq = .idle ∧ t.hist ≠ s.hist)) :
    t.status = s.status ∧ t.result = s.result := by
  obtain ⟨-, -, hstep⟩ | ⟨w, ws, e, -, -, -, hstep⟩ | ⟨w, ws, i, -, -, -, hstep⟩ | ⟨c, k, -, hstep⟩ := step_cases s
  all_goals rw [hstep] at h
  · obtain rfl := Host.Outcome.next.inj h
    exact ⟨rfl, rfl⟩
  · obtain rfl := Host.Outcome.next.inj h
    exact absurd ⟨rfl, by simp⟩ hnot
  · exact output_eq_of_exec (s := s.wordTaken) h hnot
  · exact output_eq_of_exec h hnot

/-- Settles O60: the two runs start with the same mask, and where the step ends a command it writes the same output. -/
theorem unsetStateIsNotRead : Obligations.UnsetStateIsNotRead := by
  intro s s' t hm hstep
  have ha := alike_of_masked_eq hm
  obtain ⟨t', hstep', hafter⟩ := step_alike ha id hstep
  have hmasked : t.masked = t'.masked := by
    obtain hafter | ⟨rfl, -, hsame⟩ := hafter
    · exact Alike.masked_eq hafter .inr
    · exact hsame.masked_eq id
  have hseq : t.seq = t'.seq := (congrArg State.seq hmasked :)
  have hhist : t.hist = t'.hist := (congrArg State.hist hmasked :)
  have hhist₀ : s.hist = s'.hist := (congrArg State.hist hm :)
  refine ⟨t', hstep', hmasked, fun ⟨hidle, hgrown⟩ => ?ended, fun hnot => ?running⟩
  case ended =>
    obtain hafter | ⟨rfl, -, -⟩ := hafter
    · obtain ⟨hst, hr⟩ := hafter.output (.inr hidle)
      exact ⟨hst.symm, hr.symm⟩
    · contradiction
  case running =>
    have hnot' : ¬ (t'.seq = .idle ∧ t'.hist ≠ s'.hist) := by
      rwa [← hseq, ← hhist, ← hhist₀]
    obtain ⟨hst, hr⟩ := output_eq_of_step hstep hnot
    obtain ⟨hst', hr'⟩ := output_eq_of_step hstep' hnot'
    exact ⟨hst, hr, hst', hr'⟩

end Sys2Proof.Machine
end

section
/-! PROOFS. One step of each command of several transfers, by the answer it gets: CALIBRATE (42_calibration.md R141 to
R143), the body of GET_COORDINATES (R146, R147), GESTURE_DETECT (43_gesture.md R160 to R166) and HARD_RESET
(44_platform.md R185). -/

namespace Sys2Proof.Machine

/-! ### CALIBRATE -/

section Calibrate

variable {s : State} {k : Nat}

theorem exec_calibrate_idle (hidle : s.seq = .idle) : exec .calibrate s = .next s.calRequest :=
  (exec_calibrate s).trans (State.inSteps_idle hidle)

theorem exec_calibrate_busy (hbusy : s.seq = .busy .calibrate k) : exec .calibrate s = .next (State.calResume k s) :=
  (exec_calibrate s).trans (State.inSteps_busy hbusy)

theorem State.calResume_odd (hodd : k % 2 = 1) :
    State.calResume k s = s.calDelay k (if k = 1 then 300 else 200) := by
  obtain ⟨rfl, -⟩ | ⟨-, h⟩ | ⟨-, heven, -⟩ := State.calResume_cases k s
  · contradiction
  · exact h
  · omega

theorem State.calResume_even (hpos : k ≠ 0) (heven : k % 2 = 0) : State.calResume k s = s.calPoll k := by
  obtain ⟨rfl, -⟩ | ⟨hodd, -⟩ | ⟨-, -, h⟩ := State.calResume_cases k s
  · contradiction
  · omega
  · exact h

/-- A poll that reads the byte `b` (R143). -/
theorem State.calPoll_ok {b : Byte} (hb : s.busReply 1 = .ok #v[b]) :
    s.calPoll k =
      let t := s.busDone (.busWriteRead s.cfg.devAddr [0x00] 1 (.ok [b]))
      if decodeDevMode s.cfg b = s.cfg.devModeWorking then
        { t with calState := CalState.calibrated.code }.endedWith [] 0x00 (.count s.calAttempt.toNat)
      else if s.calAttempt.toNat < 100 then { t with seq := .busy .calibrate (k + 1) }
      else { t with calState := CalState.timedOut.code }.endedWith [] 0x03 .none := by
  rw [State.calPoll, hb, State.afterRead_eq_busDone hb]
  dsimp only
  rw [State.ret_eq_endedWith, State.raise_eq_endedWith]
  rfl

theorem State.calPoll_err {d : BusErrDetail} (hd : s.busReply 1 = .err d) :
    s.calPoll k =
      { s.busDone (.busWriteRead s.cfg.devAddr [0x00] 1 (.err d)) with calState := CalState.aborted.code }.endedWith
        [] 0x01 (.busError d) := by
  rw [State.calPoll, hd, State.afterRead_eq_busDone hd]
  exact State.raise_eq_endedWith _ _

end Calibrate

/-- Settles O26. -/
theorem calibrateRequestsFactoryMode : Obligations.CalibrateRequestsFactoryMode := by
  intro s hidle
  rw [exec_calibrate_idle hidle, State.calRequest]
  constructor
  · intro hok
    rw [State.afterWrite_eq_busDone (s := s.calBegin) hok, hok]
    rfl
  · intro d herr
    rw [State.afterWrite_eq_busDone (s := s.calBegin) herr, herr]
    exact congrArg _ (State.raise_eq_endedWith _ _)

/-- Settles O27. -/
theorem calibrateDelaysBeforePolls : Obligations.CalibrateDelaysBeforePolls := by
  intro s k hbusy hodd
  rw [exec_calibrate_busy hbusy, State.calResume_odd hodd]
  rfl

/-- Settles O28: `decodeDevMode` is the two ANDs. -/
theorem calibratePolls : Obligations.CalibratePolls := by
  intro s k hbusy hpos heven
  rw [exec_calibrate_busy hbusy, State.calResume_even hpos heven]
  refine ⟨fun b hb => ?_, fun d hd => by rw [State.calPoll_err hd]⟩
  rw [State.calPoll_ok hb]
  refine ⟨fun hworking => ?hit, fun hmiss hlow => ?miss, fun hmiss hlast => ?last⟩
  case hit => exact congrArg _ (if_pos hworking)
  case miss => exact congrArg _ ((if_neg hmiss).trans (if_pos hlow))
  case last => exact congrArg _ ((if_neg hmiss).trans (if_neg (Nat.not_lt.mpr hlast)))

/-! ### The body of GET_COORDINATES, by the answer -/

section Body

variable {s : State}

theorem State.budgetSpent_iff : s.budgetSpent = true ↔ s.cfg.coordPollBudget.map Subtype.val = some s.coordPolls := by
  rw [State.budgetSpent]
  cases s.cfg.coordPollBudget with
  | none => simp
  | some n =>
    simp only [Option.map_some, Option.some.injEq, beq_iff_eq]
    exact eq_comm

/-- A state's own flag, written out. -/
theorem State.eq_of_recordDue {due : Bool} (hdue : s.recordDue = due) : s = { s with recordDue := due } := by
  rw [← hdue]

/-- `s` once a count read has been answered and counted (R146). -/
def State.counted (s : State) (b : Byte) : State :=
  { s.busDone (.busWriteRead s.cfg.devAddr [0x02] 1 (.ok [b])) with coordPolls := s.coordPolls + 1 }

theorem State.coordTransfer_count {b : Byte} (hdue : s.recordDue = false) (hb : s.busReply 1 = .ok #v[b]) :
    s.coordTransfer =
      if clampCount s.cfg b ≠ 0 then (.more, { s.counted b with recordDue := true })
      else if (s.counted b).budgetSpent then (.failed .pollBudgetExhausted, s.counted b)
      else (.more, s.counted b) := by
  rw [State.coordTransfer, hdue, if_neg Bool.false_ne_true, State.coordCount, hb, State.afterRead_eq_busDone hb]
  rfl

variable (hdue : s.recordDue = false)
include hdue

/-- A count that does not clamp to 0 ends the polling. -/
theorem State.coordTransfer_touch {b : Byte} (hb : s.busReply 1 = .ok #v[b]) (htouch : clampCount s.cfg b ≠ 0) :
    s.coordTransfer = (.more, { s.counted b with recordDue := true }) := by
  rw [State.coordTransfer_count hdue hb, if_pos htouch]

/-- An empty count that uses up the poll budget (R147). -/
theorem State.coordTransfer_spent {b : Byte} (hb : s.busReply 1 = .ok #v[b]) (hempty : clampCount s.cfg b = 0)
    (hspent : s.cfg.coordPollBudget.map Subtype.val = some (s.coordPolls + 1)) :
    s.coordTransfer = (.failed .pollBudgetExhausted, { s.counted b with recordDue := false }) := by
  rw [State.coordTransfer_count hdue hb, if_neg (not_not.mpr hempty), if_pos (State.budgetSpent_iff.mpr hspent)]
  exact congrArg (Prod.mk _) (State.eq_of_recordDue (s := s.counted b) hdue)

/-- An empty count with budget left. -/
theorem State.coordTransfer_empty {b : Byte} (hb : s.busReply 1 = .ok #v[b]) (hempty : clampCount s.cfg b = 0)
    (hleft : s.cfg.coordPollBudget.map Subtype.val ≠ some (s.coordPolls + 1)) :
    s.coordTransfer = (.more, s.counted b) := by
  rw [State.coordTransfer_count hdue hb, if_neg (not_not.mpr hempty), if_neg (mt State.budgetSpent_iff.mp hleft)]

theorem State.coordTransfer_count_err {d : BusErrDetail} (hd : s.busReply 1 = .err d) :
    s.coordTransfer = (.failed (.busError d),
      { s.busDone (.busWriteRead s.cfg.devAddr [0x02] 1 (.err d)) with recordDue := false }) := by
  rw [State.coordTransfer, hdue, if_neg Bool.false_ne_true, State.coordCount, hd, State.afterRead_eq_busDone hd]
  exact congrArg (Prod.mk _) (State.eq_of_recordDue (s := s.busDone _) hdue)

end Body

section Record

variable {s : State} (hdue : s.recordDue = true)
include hdue

theorem State.coordTransfer_record {r : Vector Byte 6} (hr : s.busReply 6 = .ok r) :
    s.coordTransfer = (.sample (decodeTouch r).x (decodeTouch r).y,
      { s.busDone (.busWriteRead s.cfg.devAddr [0x03] 6 (.ok r.toList)) with recordDue := false }) := by
  rw [State.coordTransfer, if_pos hdue, State.coordRecord, hr, State.afterRead_eq_busDone hr]
  rfl

theorem State.coordTransfer_record_err {d : BusErrDetail} (hd : s.busReply 6 = .err d) :
    s.coordTransfer = (.failed (.busError d),
      { s.busDone (.busWriteRead s.cfg.devAddr [0x03] 6 (.err d)) with recordDue := false }) := by
  rw [State.coordTransfer, if_pos hdue, State.coordRecord, hd, State.afterRead_eq_busDone hd]
  rfl

end Record

/-! ### GET_COORDINATES -/

section GetCoordinates

variable {s : State} {k : Nat}

theorem exec_getCoordinates_idle (hidle : s.seq = .idle) :
    exec .getCoordinates s = .next (State.coordResume 0 s.coordEnter) :=
  (exec_getCoordinates s).trans (State.inSteps_idle hidle)

theorem exec_getCoordinates_busy (hbusy : s.seq = .busy .getCoordinates k) :
    exec .getCoordinates s = .next (State.coordResume k s) :=
  (exec_getCoordinates s).trans (State.inSteps_busy hbusy)

/-- The polling of GET_COORDINATES, at its first count read or at a later one. -/
theorem exec_getCoordinates_polling {polls : Nat}
    (h : (s.seq = .idle ∧ k = 0 ∧ polls = 0) ∨
      (s.seq = .busy .getCoordinates k ∧ s.recordDue = false ∧ polls = s.coordPolls)) :
    exec .getCoordinates s = .next (State.coordResume k { s with recordDue := false, coordPolls := polls }) := by
  obtain ⟨hidle, rfl, rfl⟩ | ⟨hbusy, hdue, rfl⟩ := h
  · exact exec_getCoordinates_idle hidle
  · rw [exec_getCoordinates_busy hbusy, ← hdue]

end GetCoordinates

/-- Settles O33. -/
theorem getCoordinatesCountReads : Obligations.GetCoordinatesCountReads := by
  intro s k polls h
  rw [exec_getCoordinates_polling h, State.coordResume_eq]
  let u : State := { s with recordDue := false, coordPolls := polls }
  refine ⟨fun b hb => ⟨fun htouch => ?touch, fun hempty hspent => ?spent, fun hempty hleft => ?empty⟩,
    fun d hd => ?failed⟩
  case touch =>
    rw [State.coordTransfer_touch (s := u) rfl hb htouch]
    rfl
  case spent =>
    rw [State.coordTransfer_spent (s := u) rfl hb hempty hspent]
    exact congrArg _ (State.raise_eq_endedWith _ _)
  case empty =>
    rw [State.coordTransfer_empty (s := u) rfl hb hempty hleft]
    rfl
  case failed =>
    rw [State.coordTransfer_count_err (s := u) rfl hd]
    exact congrArg _ (State.raise_eq_endedWith _ _)

/-- Settles O34. -/
theorem getCoordinatesReadsRecord : Obligations.GetCoordinatesReadsRecord := by
  intro s k hbusy hdue
  rw [exec_getCoordinates_busy hbusy, State.coordResume_eq]
  constructor
  · intro r hr
    rw [State.coordTransfer_record hdue hr]
    exact congrArg _ (State.ret_eq_endedWith _ _)
  · intro d hd
    rw [State.coordTransfer_record_err hdue hd]
    exact congrArg _ (State.raise_eq_endedWith _ _)

/-! ### GESTURE_DETECT -/

section Gesture

variable {s : State} {k : Nat}

theorem exec_gestureDetect_start (hidle : s.seq = .idle) (hunit : s.cfg.gestureFeature = true) :
    exec .gestureDetect s = .next (State.gestureResume 0 s.gestureEnter) := by
  rw [exec_gestureDetect_idle hidle, if_pos hunit]

theorem exec_gestureDetect_busy (hbusy : s.seq = .busy .gestureDetect k) :
    exec .gestureDetect s = .next (State.gestureResume k s) :=
  (exec_gestureDetect s).trans (State.inSteps_busy hbusy)

theorem State.gestureNext_of_lt (h : s.smpIter.toNat < 19) :
    s.gestureNext k = s.startIteration.advance .gestureDetect (k + 1) := by
  obtain ⟨-, h'⟩ | ⟨hge, -⟩ := s.gestureNext_cases k
  · exact h'
  · omega

/-- The command ends with the kind of its sample sequence (43_gesture.md R163 to R166). -/
theorem State.gestureNext_of_last (h : s.smpIter.toNat = 19)
    (hn : s.cfg.sampleDiscardPolicy = .compact → s.smpN.toNat ≤ 19) :
    s.gestureNext k = s.endedWith [] 0x00 (.gesture (gestureCode (swipeKind s.sampleSeq))) := by
  obtain ⟨hlt, -⟩ | ⟨-, h'⟩ := s.gestureNext_cases k
  · omega
  · rw [h', State.ret_eq_endedWith, State.gestureResult_eq s hn]

/-- A failed transfer of the body, or one that uses up the budget: it leaves the event `e` and `polls` counts. -/
theorem State.coordTransfer_failed {polls : Nat} {e : Event}
    (h : (∃ d, s.nextBusAnswer = .err d ∧ polls = s.coordPolls ∧
        e = if s.recordDue then .busWriteRead s.cfg.devAddr [0x03] 6 (.err d)
          else .busWriteRead s.cfg.devAddr [0x02] 1 (.err d)) ∨
      (∃ b, s.recordDue = false ∧ s.busReply 1 = .ok #v[b] ∧ clampCount s.cfg b = 0 ∧
        s.cfg.coordPollBudget.map Subtype.val = some (s.coordPolls + 1) ∧ polls = s.coordPolls + 1 ∧
        e = .busWriteRead s.cfg.devAddr [0x02] 1 (.ok [b]))) :
    ∃ err, s.coordTransfer = (.failed err, { s.busDone e with recordDue := false, coordPolls := polls }) := by
  obtain ⟨d, hd, rfl, rfl⟩ | ⟨b, hdue, hb, hempty, hspent, rfl, rfl⟩ := h
  · have hreply (n : Nat) : s.busReply n = .err d := by rw [State.busReply, hd]
    cases hdue : s.recordDue with
    | true => exact ⟨.busError d, State.coordTransfer_record_err hdue (hreply 6)⟩
    | false => exact ⟨.busError d, State.coordTransfer_count_err hdue (hreply 1)⟩
  · exact ⟨.pollBudgetExhausted, State.coordTransfer_spent hdue hb hempty hspent⟩

/-- `s` once the body has failed in the transfer `e` with `polls` counts: its sample is discarded. -/
def State.discarded (s : State) (polls : Nat) (e : Event) : State :=
  { s with
    recordDue := false
    coordPolls := polls
    hist := s.hist ++ [e, .sampleDiscarded s.gestureIteration]
    env := s.env.afterBus }

/-- A failed transfer discards the sample of its iteration (43_gesture.md R162). -/
theorem State.gestureResume_failed {polls : Nat} {e : Event} {err : CmdError}
    (h : s.coordTransfer = (.failed err, { s.busDone e with recordDue := false, coordPolls := polls })) :
    State.gestureResume k s = (s.discarded polls e).gestureNext k := by
  rw [State.gestureResume_eq, h]
  dsimp only [State.emit, State.busDone]
  rw [List.append_assoc]
  rfl

end Gesture

/-- `s` at the entry of GESTURE_DETECT, with `xs` and `ys` for the free values of the window (log entry 12). -/
def State.gestureStarted (s : State) (xs ys : Vector Coord 19) : State :=
  { s with recordDue := false, coordPolls := 0, smpX := xs, smpY := ys, smpOk := 0, smpN := 0, smpIter := 1 }

theorem State.exists_gestureStarted (s : State) : ∃ xs ys, s.gestureEnter = s.gestureStarted xs ys :=
  ⟨freeWindowX s.env.draws, freeWindowY s.env.draws, s.gestureEnter_eq_withGesture⟩

/-- Settles O38: at the entry the window takes the free values of the transfer's draw. -/
theorem gestureDetectStarts : Obligations.GestureDetectStarts := by
  intro s hidle hunit
  obtain ⟨xs, ys, henter⟩ := s.exists_gestureStarted
  refine ⟨xs, ys, ?_⟩
  rw [exec_gestureDetect_start hidle hunit, henter]
  constructor
  · intro b hb
    refine ⟨fun htouch => ?touch, fun hempty hleft => ?empty, fun hempty hspent => ?spent⟩
    case touch =>
      rw [State.gestureResume_eq, State.coordTransfer_touch (s := s.gestureStarted xs ys) rfl hb htouch]
      rfl
    case empty =>
      rw [State.gestureResume_eq, State.coordTransfer_empty (s := s.gestureStarted xs ys) rfl hb hempty hleft]
      rfl
    case spent =>
      have hfailed := State.coordTransfer_spent (s := s.gestureStarted xs ys) rfl hb hempty hspent
      rw [State.gestureResume_failed (polls := 1) (e := .busWriteRead s.cfg.devAddr [0x02] 1 (.ok [b])) hfailed,
        State.gestureNext_of_lt (s := (s.gestureStarted xs ys).discarded 1 _) (show 1 < 19 by decide)]
      rfl
  · intro d hd
    have hfailed := State.coordTransfer_count_err (s := s.gestureStarted xs ys) rfl hd
    rw [State.gestureResume_failed (polls := 0) (e := .busWriteRead s.cfg.devAddr [0x02] 1 (.err d)) hfailed,
      State.gestureNext_of_lt (s := (s.gestureStarted xs ys).discarded 0 _) (show 1 < 19 by decide)]
    rfl

/-- Settles O39. -/
theorem gestureDiscardsFailedSample : Obligations.GestureDiscardsFailedSample := by
  intro s k polls e hbusy hstarted hfails i
  obtain ⟨err, h⟩ := State.coordTransfer_failed hfails
  rw [exec_gestureDetect_busy hbusy, State.gestureResume_failed h]
  constructor
  · intro hi
    rw [State.gestureNext_of_lt (s := s.discarded polls e) (show s.smpIter.toNat < 19 by omega)]
    rfl
  · intro hi hn
    rw [State.gestureNext_of_last (s := s.discarded polls e) (show s.smpIter.toNat = 19 by omega)
      fun _ => Nat.le_succ_of_le hn,
      State.endedWith, List.append_nil]
    rfl

/-- `s` once the record `r` of iteration `i` has been read and its sample stored in `entry` (43_gesture.md R160). -/
def State.sampled (s : State) (r : Vector Byte 6) (i entry : Fin 19) : State :=
  { s.busDone (.busWriteRead s.cfg.devAddr [0x03] 6 (.ok r.toList)) with
    recordDue := false
    smpX := s.smpX.set entry (decodeTouch r).x
    smpY := s.smpY.set entry (decodeTouch r).y
    smpOk := s.smpOk ||| 1#19 <<< i.val
    smpN := s.smpN + 1 }

section Sample

variable {s : State} {k : Nat} {i entry : Fin 19}

/-- Where the sample of iteration `i` goes. -/
theorem State.sampleEntry_eq (hcompact : s.cfg.sampleDiscardPolicy = .compact → entry.val = s.smpN.toNat)
    (hslot : s.cfg.sampleDiscardPolicy = .slotKeep → entry = i) : s.sampleEntry i = entry := by
  unfold State.sampleEntry
  split
  · exact (hcompact ‹_›).symm
  · exact (congrArg Fin.val (hslot ‹_›)).symm

theorem State.putSample_eq {x y : Coord} {j : Nat} (hentry : s.sampleEntry j = entry) :
    s.putSample j x y =
      { s with
        smpX := s.smpX.set entry x
        smpY := s.smpY.set entry y
        smpOk := s.smpOk ||| 1#19 <<< j
        smpN := s.smpN + 1 } := by
  have hset (v : Vector Coord 19) (c : Coord) : v.setIfInBounds entry c = v.set entry c := by
    ext m hm
    rw [Vector.getElem_setIfInBounds, Vector.getElem_set]
  rw [State.putSample, hentry, hset, hset]

/-- The record read of an iteration yields its sample. -/
theorem State.gestureResume_record {r : Vector Byte 6} (hdue : s.recordDue = true) (hr : s.busReply 6 = .ok r)
    (hiter : s.smpIter.toNat = i.val + 1) (hentry : s.sampleEntry i = entry) :
    State.gestureResume k s = (s.sampled r i entry).gestureNext k := by
  have hi : s.gestureIteration = i := by rw [State.gestureIteration, hiter, Nat.add_sub_cancel]
  rw [State.gestureResume_eq, State.coordTransfer_record hdue hr, hi]
  let t : State := { s.busDone (.busWriteRead s.cfg.devAddr [0x03] 6 (.ok r.toList)) with recordDue := false }
  exact congrArg (State.gestureNext · k) (State.putSample_eq (s := t) hentry)

end Sample

/-- Settles O40. -/
theorem gestureTakesSample : Obligations.GestureTakesSample := by
  intro s k hbusy
  rw [exec_gestureDetect_busy hbusy]
  constructor
  · intro b hdue hb
    rw [State.gestureResume_eq]
    constructor
    · intro htouch
      rw [State.coordTransfer_touch hdue hb htouch]
      rfl
    · intro hempty hleft
      rw [State.coordTransfer_empty hdue hb hempty hleft]
      rfl
  · intro r i entry hdue hr hiter hcompact hslot
    rw [State.gestureResume_record hdue hr hiter (State.sampleEntry_eq hcompact hslot)]
    constructor
    · intro hi
      rw [State.gestureNext_of_lt (s := s.sampled r i entry) (show s.smpIter.toNat < 19 by omega)]
      rfl
    · intro hi
      have hroom (hp : s.cfg.sampleDiscardPolicy = .compact) : (s.smpN + 1).toNat ≤ 19 := by
        have hentry := hcompact hp
        rw [toNat_counter_add_one (by omega)]
        omega
      rw [State.gestureNext_of_last (s := s.sampled r i entry) (show s.smpIter.toNat = 19 by omega) hroom]
      rfl

/-! ### HARD_RESET -/

section HardReset

variable {s : State} {k : Nat}

theorem exec_hardReset_start (hidle : s.seq = .idle) (hhelper : s.cfg.resetHelper = true) :
    exec .hardReset s = .next (State.hardResetResume 0 s) := by
  rw [exec_hardReset, State.inSteps_idle hidle, if_pos hhelper]

theorem exec_hardReset_busy (hbusy : s.seq = .busy .hardReset k) :
    exec .hardReset s = .next (State.hardResetResume k s) :=
  (exec_hardReset s).trans (State.inSteps_busy hbusy)

theorem State.afterPin_of_reply {o : PinOutcome} (l : Level) (ho : s.pinReply = o) :
    s.afterPin l =
      { s with
        env := { s.env with pinScript := s.env.pinScript.tail, draws := s.env.draws + 1 }
        hist := s.hist ++ [.pin l o] } := by
  rw [← ho]
  rfl

end HardReset

/-- Settles O50. -/
theorem hardResetTransfers : Obligations.HardResetTransfers := by
  intro s pinned
  have hpin {o : PinOutcome} (l : Level) (ho : s.pinReply = o) : s.afterPin l = pinned l o :=
    State.afterPin_of_reply l ho
  refine ⟨fun hidle hhelper => ?low, fun hbusy => ?delay, fun hbusy => ?high⟩
  case low =>
    rw [exec_hardReset_start hidle hhelper, State.hardResetResume, if_pos rfl, State.pinThen]
    constructor
    · intro hok
      rw [hok, ← hpin .low hok]
      rfl
    · intro herr
      rw [herr, ← hpin .low herr]
      exact congrArg _ (State.raise_eq_endedWith _ _)
  case delay =>
    rw [exec_hardReset_busy hbusy]
    rfl
  case high =>
    rw [exec_hardReset_busy hbusy]
    rw [State.hardResetResume, if_neg (by decide), if_neg (by decide), State.pinThen]
    constructor
    · intro hok
      rw [hok, ← hpin .high hok]
      exact congrArg _ (State.ret_eq_endedWith _ _)
    · intro herr
      rw [herr, ← hpin .high herr]
      exact congrArg _ (State.raise_eq_endedWith _ _)

end Sys2Proof.Machine
end

section
/-! PROOFS. Runs of several steps: the GestureInit round trip and HARD_RESET (44_platform.md R183, R185), and CALIBRATE
(42_calibration.md R148, R149). -/

namespace Sys2Proof.Machine

/-! ### Runs -/

/-- `s` with `ws` as the words on the port. -/
def State.withWords (s : State) (ws : List (List Byte)) : State :=
  { s with env := { s.env with words := ws } }

/-- The first step of a command whose word is next on the port. -/
theorem step_first {s : State} {i : Instr} {ws : List (List Byte)} (hidle : s.seq = .idle)
    (hw : s.env.words = encode i :: ws) (hi : i.encodable = true) : step s = exec i (s.withWords ws) := by
  rw [stepRunsDecodedCommand s _ ws i hidle hw (decode_encode hi), State.wordTaken, hw]
  rfl

theorem runSteps_one {s t : State} (h : step s = .next t) : runSteps 1 s = .next t :=
  runSteps_succ h

/-- An end right after the events that the history of `s` already holds. -/
theorem State.endedWith_nil (s : State) (status : Byte) (payload : Payload) :
    s.endedWith [] status payload =
      { s with seq := .idle, status := status, result := payload, hist := s.hist ++ [.commandEnd status] } := by
  rw [State.endedWith, List.append_nil]

/-! ### The GestureInit round trip -/

/-- `s` once GI_SET has loaded `p` (44_platform.md R181), with `ws` left on the port. -/
def State.giLoaded (s : State) (p : Vector Byte 6) (ws : List (List Byte)) : State :=
  { s with giCache := p, giValid := true, env := { s.env with words := ws } }.endedWith [] 0x00 (.bytes [])

/-- `s` once GI_WRITE has pushed its cache (R182), with `ws` and the answers `rest` left. -/
def State.giPushed (s : State) (ws : List (List Byte)) (rest : List BusAnswer) : State :=
  { s with
    env := { s.env with words := ws, busScript := rest, draws := s.env.draws + 1 } }.endedWith
    [.busWrite s.cfg.devAddr (BitVec.ofNat 8 s.cfg.gestureInitBase.val :: s.giCache.toList) .ok] 0x00 (.bytes [])

/-- `s` once GI_READ has read `answer` (R180), with `ws` and the answers `rest` left. -/
def State.giFetched (s : State) (answer : Vector Byte 6) (ws : List (List Byte)) (rest : List BusAnswer) : State :=
  { s with
    giCache := answer
    giValid := true
    env := { s.env with words := ws, busScript := rest, draws := s.env.draws + 1 } }.endedWith
    [.busWriteRead s.cfg.devAddr [BitVec.ofNat 8 s.cfg.gestureInitBase.val] 6 (.ok answer.toList)] 0x00
    (.gestureInit ⟨answer[0], answer[1], answer[2], answer[3], answer[4], answer[5]⟩)

section GestureInit

variable {s : State} {ws : List (List Byte)} {rest : List BusAnswer} (hidle : s.seq = .idle)
include hidle

theorem step_giSet {p0 p1 p2 p3 p4 p5 : Byte} (hw : s.env.words = [0x41, p0, p1, p2, p3, p4, p5] :: ws) :
    step s = .next (s.giLoaded #v[p0, p1, p2, p3, p4, p5] ws) := by
  rw [step_first (i := .giSet p0 p1 p2 p3 p4 p5) hidle hw rfl, giSetLoadsCache (s.withWords ws) _ _ _ _ _ _ hidle]
  rfl

theorem step_giWrite {ack : List Byte} (hw : s.env.words = [0x42] :: ws) (hvalid : s.giValid = true)
    (hscript : s.env.busScript = .ok ack :: rest) : step s = .next (s.giPushed ws rest) := by
  have hok : s.writeReply = .ok := State.writeReply_script_ok hscript
  rw [step_first (i := .giWrite) hidle hw rfl, (giWritePushesCache (s.withWords ws) hidle).2.1 hvalid hok,
    State.endedWith_nil]
  simp only [State.busDone, Env.afterBus, State.withWords, hscript]
  rfl

theorem step_giRead {answer : Vector Byte 6} (hw : s.env.words = [0x40] :: ws)
    (hscript : s.env.busScript = .ok answer.toList :: rest) : step s = .next (s.giFetched answer ws rest) := by
  have hb : s.busReply 6 = .ok answer := State.busReply_script_ok hscript
  rw [step_first (i := .giRead) hidle hw rfl, (giReadLoadsCache (s.withWords ws) hidle).1 answer hb,
    State.endedWith_nil]
  simp only [State.busDone, Env.afterBus, State.withWords, hscript]
  rfl

end GestureInit

/-- Settles O48. -/
theorem gestureInitRoundTrip : Obligations.GestureInitRoundTrip := by
  intro s ws p0 p1 p2 p3 p4 p5 ack answer rest hidle hw hscript base
  let p : Vector Byte 6 := #v[p0, p1, p2, p3, p4, p5]
  let s₁ := s.giLoaded p ([0x42] :: [0x40] :: ws)
  let s₂ := s₁.giPushed ([0x40] :: ws) (.ok answer.toList :: rest)
  have h₁ : step s = .next s₁ := step_giSet hidle hw
  have h₂ : step s₁ = .next s₂ := step_giWrite rfl rfl rfl hscript
  have h₃ : step s₂ = .next (s₂.giFetched answer ws rest) := step_giRead rfl rfl rfl
  refine ⟨s₂.giFetched answer ws rest, ?run, ?final, fun hecho => ?echoed⟩
  case run => rw [runSteps_succ h₁, runSteps_succ h₂, runSteps_one h₃]
  case final =>
    simp only [State.giFetched, State.endedWith, s₂, s₁, State.giPushed, State.giLoaded, List.append_assoc,
      List.nil_append, List.cons_append]
    rfl
  case echoed =>
    have hp : answer.toList = p.toList := by
      refine hecho _ ?_
      simp only [State.giFetched, State.endedWith, s₂, s₁, State.giPushed, State.giLoaded, List.append_assoc,
        List.drop_left]
      simp [p, base]
    have hanswer : answer = p := Vector.toList_inj.mp hp
    rw [hanswer]
    exact ⟨rfl, rfl⟩

/-! ### HARD_RESET -/

/-- `s` once HARD_RESET has driven the pin low, with `ws` and the pin outcomes `pins` left. -/
def State.pinLow (s : State) (ws : List (List Byte)) (pins : List PinOutcome) : State :=
  { s with
    seq := .busy .hardReset 1
    env := { s.env with words := ws, pinScript := pins, draws := s.env.draws + 1 }
    hist := s.hist ++ [.pin .low .ok] }

theorem State.pinReply_script {s : State} {o : PinOutcome} {pins : List PinOutcome} (h : s.env.pinScript = o :: pins) :
    s.pinReply = o := by
  rw [State.pinReply, h]

theorem step_hardReset_low {s : State} {ws : List (List Byte)} {pins : List PinOutcome} (hidle : s.seq = .idle)
    (hhelper : s.cfg.resetHelper = true) (hw : s.env.words = [0x50] :: ws) (hscript : s.env.pinScript = .ok :: pins) :
    step s = .next (s.pinLow ws pins) := by
  have hok : (s.withWords ws).pinReply = .ok := State.pinReply_script hscript
  rw [step_first (i := .hardReset) hidle hw rfl, ((hardResetTransfers (s.withWords ws)).1 hidle hhelper).1 hok]
  simp only [State.withWords, hscript]
  rfl

/-- Settles O51. -/
theorem hardResetPulse : Obligations.HardResetPulse := by
  intro s ws pins hidle hhelper hw hscript
  let s₁ := s.pinLow ws (.ok :: pins)
  let s₂ : State := { s₁ with seq := .busy .hardReset 2, hist := s₁.hist ++ [.delay 10] }
  have h₂ : step s₁ = .next s₂ := (step_busy rfl).trans ((hardResetTransfers s₁).2.1 rfl)
  have h₃ := (step_busy rfl).trans (((hardResetTransfers s₂).2.2 rfl).1 rfl)
  rw [runSteps_succ (step_hardReset_low hidle hhelper hw hscript), runSteps_succ h₂, runSteps_one h₃]
  simp only [State.endedWith, s₂, s₁, State.pinLow, List.append_assoc, List.nil_append, List.cons_append]
  rfl

/-! ### CALIBRATE: the number of polls -/

/-- CALIBRATE before a poll, `misses` polls after its start: `s` with the answers `script` left and the history
`hist`. -/
def State.pollDue (s : State) (misses : Nat) (script : List BusAnswer) (hist : List Event) : State :=
  { s with
    seq := .busy .calibrate (2 * misses + 2)
    calState := CalState.polling.code
    calAttempt := BitVec.ofNat 7 (misses + 1)
    env := { s.env with busScript := script, draws := s.env.draws + misses + 1 }
    hist := hist }

/-- The request and the settle delay (42_calibration.md R141, R142). -/
theorem runSteps_calibrate_start {s : State} {ws : List (List Byte)} {ack : List Byte} {script : List BusAnswer}
    (hidle : s.seq = .idle) (hw : s.env.words = [0x30] :: ws) (hscript : s.env.busScript = .ok ack :: script) :
    runSteps 2 s = .next ((s.withWords ws).pollDue 0 script
      (s.hist ++ [.busWrite s.cfg.devAddr [0x00, s.cfg.devModeFactory] .ok, .delay 300])) := by
  let u := s.withWords ws
  let t : State :=
    { u.busDone (.busWrite s.cfg.devAddr [0x00, s.cfg.devModeFactory] .ok) with
      seq := .busy .calibrate 1, calState := CalState.factoryModeRequested.code, calAttempt := 0 }
  have hok : u.writeReply = .ok := State.writeReply_script_ok hscript
  have hrequest : step s = .next t := by
    rw [step_first (i := .calibrate) hidle hw rfl, (calibrateRequestsFactoryMode u hidle).1 hok]
    rfl
  have hsettle := (step_busy rfl).trans (calibrateDelaysBeforePolls t 1 rfl rfl)
  rw [runSteps_succ hrequest, runSteps_one hsettle]
  simp only [State.pollDue, t, u, State.busDone, State.withWords, Env.afterBus, hscript, List.append_assoc]
  rfl

section Polls

variable {s : State} {misses : Nat} {b : Byte} {script : List BusAnswer} {hist : List Event}

theorem toNat_attempt (h : misses < 100) : (BitVec.ofNat 7 (misses + 1)).toNat = misses + 1 :=
  BitVec.toNat_ofNat _ _ |>.trans (Nat.mod_eq_of_lt (by omega))

/-- A poll that misses, and the delay after it (R142, R143). -/
theorem runSteps_calibrate_miss (hmiss : decodeDevMode s.cfg b ≠ s.cfg.devModeWorking) (h : misses + 1 < 100) :
    runSteps 2 (s.pollDue misses (.ok [b] :: script) hist) =
      .next (s.pollDue (misses + 1) script
        (hist ++ [.busWriteRead s.cfg.devAddr [0x00] 1 (.ok [b]), .delay 200])) := by
  let u := s.pollDue misses (.ok [b] :: script) hist
  have hb : u.busReply 1 = .ok #v[b] := State.busReply_script_byte rfl
  have hlow : u.calAttempt.toNat < 100 := by
    rw [show u.calAttempt.toNat = misses + 1 from toNat_attempt (by omega)]
    exact h
  let t : State :=
    { u.busDone (.busWriteRead s.cfg.devAddr [0x00] 1 (.ok [b])) with seq := .busy .calibrate (2 * misses + 3) }
  have hpoll : step u = .next t := (step_busy rfl).trans
    (((calibratePolls u (2 * misses + 2) rfl (by omega) (by omega)).1 b hb).2.1 hmiss hlow)
  have hattempt : t.calAttempt + 1 = BitVec.ofNat 7 (misses + 2) := (BitVec.ofNat_add (misses + 1) 1).symm
  rw [runSteps_succ hpoll, runSteps_one
    ((step_busy rfl).trans (calibrateDelaysBeforePolls t (2 * misses + 3) rfl (by omega))), if_neg (by omega), hattempt,
    List.append_cons hist]
  rfl

/-- All polls before the last (R148). -/
theorem runSteps_calibrate_misses {ms : List Byte} (h : misses + ms.length < 100)
    (hmiss : ∀ b ∈ ms, decodeDevMode s.cfg b ≠ s.cfg.devModeWorking) :
    runSteps (2 * ms.length) (s.pollDue misses (ms.map (fun b => .ok [b]) ++ script) hist) =
      .next (s.pollDue (misses + ms.length) script (hist ++
        ms.flatMap fun b => [.busWriteRead s.cfg.devAddr [0x00] 1 (.ok [b]), .delay 200])) := by
  induction ms generalizing misses hist with
  | nil => rw [List.flatMap_nil, List.append_nil]; rfl
  | cons b ms ih =>
    rw [List.forall_mem_cons] at hmiss
    rw [List.length_cons] at h
    rw [List.map_cons, List.cons_append, List.length_cons, Nat.mul_add_one, Nat.add_comm (2 * _),
      runSteps_add _ (runSteps_calibrate_miss hmiss.1 (by omega)), ih (by omega) hmiss.2, List.flatMap_cons,
      List.append_assoc, Nat.add_right_comm, Nat.add_assoc]

/-- `s` once the last poll, after `misses` others, has been answered with `b` and left `CAL_STATE` at `c`. -/
def State.lastPoll (s : State) (misses : Nat) (c : CalState) (script : List BusAnswer) (hist : List Event) (b : Byte) :
    State :=
  { s with
    calState := c.code
    calAttempt := BitVec.ofNat 7 (misses + 1)
    env := { s.env with busScript := script, draws := s.env.draws + misses + 2 }
    hist := hist ++ [.busWriteRead s.cfg.devAddr [0x00] 1 (.ok [b])] }

/-- A poll that hits (R143). -/
theorem step_calibrate_hit (h : misses < 100) (hhit : decodeDevMode s.cfg b = s.cfg.devModeWorking) :
    step (s.pollDue misses (.ok [b] :: script) hist) =
      .next ((s.lastPoll misses .calibrated script hist b).endedWith [] 0x00 (.count (misses + 1))) := by
  let u := s.pollDue misses (.ok [b] :: script) hist
  have hb : u.busReply 1 = .ok #v[b] := State.busReply_script_byte rfl
  refine (step_busy rfl).trans
    ((((calibratePolls u (2 * misses + 2) rfl (by omega) (by omega)).1 b hb).1 hhit).trans ?_)
  rw [show u.calAttempt.toNat = misses + 1 from toNat_attempt h]
  rfl

/-- Poll 100 misses (R143). -/
theorem step_calibrate_timeout (hmiss : decodeDevMode s.cfg b ≠ s.cfg.devModeWorking) :
    step (s.pollDue 99 (.ok [b] :: script) hist) =
      .next ((s.lastPoll 99 .timedOut script hist b).endedWith [] 0x03 .none) := by
  let u := s.pollDue 99 (.ok [b] :: script) hist
  have hb : u.busReply 1 = .ok #v[b] := State.busReply_script_byte rfl
  exact (step_busy rfl).trans (((calibratePolls u 200 rfl (by decide) rfl).1 b hb).2.2 hmiss (le_refl 100))

end Polls

/-- Settles O30. -/
theorem calibratePollCount : Obligations.CalibratePollCount := by
  intro s ws ack misses last rest hidle hw hscript hlen hmiss mode evs t
  have hlast {c : CalState} {status : Byte} {payload : Payload}
      (h : ∀ hist, step ((s.withWords ws).pollDue misses.length (.ok [last] :: rest) hist) =
        .next (((s.withWords ws).lastPoll misses.length c rest hist last).endedWith [] status payload)) :
      runSteps (2 * misses.length + 3) s = .next ({ t with calState := c.code }.endedWith evs status payload) := by
    have hstart := runSteps_calibrate_start hidle hw (hscript.trans List.cons_append)
    have hpolls := runSteps_calibrate_misses (s := s.withWords ws) (script := .ok [last] :: rest)
      (hist := s.hist ++ [.busWrite s.cfg.devAddr [0x00, s.cfg.devModeFactory] .ok, .delay 300]) (misses := 0)
      (ms := misses) (by omega) hmiss
    rw [show 2 * misses.length + 3 = 2 + (2 * misses.length + 1) by omega, runSteps_add _ hstart, runSteps_add _ hpolls,
      Nat.zero_add, runSteps_one (h _), State.endedWith_nil]
    simp only [State.endedWith, State.lastPoll, State.withWords, t, evs, List.append_assoc]
  exact ⟨fun hhit => hlast fun hist => step_calibrate_hit hlen hhit,
    fun hmiss hcount => hlast fun hist => by rw [hcount]; exact step_calibrate_timeout hmiss⟩

/-! ### CALIBRATE: it always ends -/

/-- Bounds on the events of a run: how many writes, reads and delays it has, and how long it delays. -/
structure CalBounds (evs : List Event) (writes reads delays ms : Nat) : Prop where
  writes : (evs.filter fun e => match e with | .busWrite _ _ _ => true | _ => false).length ≤ writes
  reads : (evs.filter fun e => match e with | .busWriteRead _ _ _ _ => true | _ => false).length ≤ reads
  delays : (evs.filter fun e => match e with | .delay _ => true | _ => false).length ≤ delays
  ms : (evs.map fun e => match e with | .delay ms => ms | _ => 0).sum ≤ ms

section Bounds

variable {evs : List Event} {w r d ms : Nat}

theorem CalBounds.nil : CalBounds [] w r d ms :=
  ⟨Nat.zero_le _, Nat.zero_le _, Nat.zero_le _, Nat.zero_le _⟩

variable (h : CalBounds evs w r d ms)
include h

theorem CalBounds.write (dev : BitVec 7) (bytes : List Byte) (o : WriteOutcome) :
    CalBounds (.busWrite dev bytes o :: evs) (w + 1) r d ms :=
  ⟨Nat.succ_le_succ h.writes, h.reads, h.delays, by simpa using h.ms⟩

theorem CalBounds.read (dev : BitVec 7) (out : List Byte) (n : Nat) (o : ReadOutcome) :
    CalBounds (.busWriteRead dev out n o :: evs) w (r + 1) d ms :=
  ⟨h.writes, Nat.succ_le_succ h.reads, h.delays, by simpa using h.ms⟩

theorem CalBounds.delay (n : Nat) : CalBounds (.delay n :: evs) w r (d + 1) (n + ms) :=
  ⟨h.writes, h.reads, Nat.succ_le_succ h.delays, by simpa using h.ms⟩

end Bounds

/-- From `s` the command ends within `n` steps, with `words` left on the port and the events that the bounds allow. -/
def CalEnds (s : State) (words : List (List Byte)) (n writes reads delays ms : Nat) : Prop :=
  ∃ (m : Nat) (t : State) (evs : List Event), m ≤ n ∧ runSteps m s = .next t ∧ t.seq = .idle ∧
    t.hist = s.hist ++ evs ++ [.commandEnd t.status] ∧ t.env.words = words ∧ CalBounds evs writes reads delays ms

section Ends

variable {s : State} {words : List (List Byte)} {e : Event} {n w r d ms : Nat}

theorem CalEnds.of_end {t : State} {status : Byte} {payload : Payload}
    (hstep : step s = .next (t.endedWith [] status payload)) (hhist : t.hist = s.hist ++ [e])
    (hwords : t.env.words = words) (hbounds : CalBounds [e] w r d ms) : CalEnds s words (n + 1) w r d ms := by
  refine ⟨1, _, [e], Nat.succ_pos n, runSteps_one hstep, rfl, ?_, hwords, hbounds⟩
  rw [State.endedWith_nil, ← hhist]

theorem CalEnds.of_step {u : State} {w' r' d' ms' : Nat} (hstep : step s = .next u) (hhist : u.hist = s.hist ++ [e])
    (h : CalEnds u words n w r d ms)
    (hbounds : ∀ {evs}, CalBounds evs w r d ms → CalBounds (e :: evs) w' r' d' ms') :
    CalEnds s words (n + 1) w' r' d' ms' := by
  obtain ⟨m, t, evs, hm, hrun, hidle, hthist, hwords, hevs⟩ := h
  refine ⟨m + 1, t, e :: evs, Nat.succ_le_succ hm, (runSteps_succ hstep).trans hrun, hidle, ?_,
    hwords, hbounds hevs⟩
  rw [hthist, hhist, List.append_assoc s.hist, List.singleton_append]

end Ends

/-- A poll ends the command, or goes on below attempt 100 (42_calibration.md R143). -/
theorem step_calibrate_poll {s : State} {k : Nat} (hbusy : s.seq = .busy .calibrate k) (hpos : k ≠ 0)
    (heven : k % 2 = 0) :
    (∃ (t : State) (status : Byte) (payload : Payload), step s = .next (t.endedWith [] status payload) ∧
      t.hist = (s.afterRead 0x00 1).hist ∧ t.env.words = s.env.words) ∨
    (s.calAttempt.toNat < 100 ∧ step s = .next { s.afterRead 0x00 1 with seq := .busy .calibrate (k + 1) }) := by
  have hstep : step s = .next (s.calPoll k) := by
    rw [step_busy hbusy, exec_calibrate_busy hbusy, State.calResume_even hpos heven]
  obtain ⟨b, -, -, h⟩ | ⟨b, -, -, hlow, h⟩ | ⟨b, -, -, -, h⟩ | ⟨d, -, h⟩ := s.calPoll_cases k
  · exact .inl ⟨_, _, _, hstep.trans (congrArg _ (h.trans (State.ret_eq_endedWith _ _))), rfl, rfl⟩
  · exact .inr ⟨hlow, hstep.trans (congrArg _ h)⟩
  · exact .inl ⟨_, _, _, hstep.trans (congrArg _ (h.trans (State.raise_eq_endedWith _ _))), rfl, rfl⟩
  · exact .inl ⟨_, _, _, hstep.trans (congrArg _ (h.trans (State.raise_eq_endedWith _ _))), rfl, rfl⟩

/-- A poll that still has `polls` attempts after it: the command ends with them at the latest. -/
theorem calEnds_poll (polls : Nat) {s : State} {k : Nat} (hbusy : s.seq = .busy .calibrate k) (hpos : k ≠ 0)
    (heven : k % 2 = 0) (hattempt : s.calAttempt.toNat + polls = 100) :
    CalEnds s s.env.words (2 * polls + 1) 0 (polls + 1) polls (200 * polls) := by
  induction polls generalizing s k with
  | zero =>
    obtain ⟨t, status, payload, hend, hhist, hwords⟩ | ⟨hlow, -⟩ := step_calibrate_poll hbusy hpos heven
    · exact .of_end hend hhist hwords (CalBounds.nil.read _ _ _ _)
    · omega
  | succ polls ih =>
    obtain ⟨t, status, payload, hend, hhist, hwords⟩ | ⟨hlow, hmore⟩ := step_calibrate_poll hbusy hpos heven
    · exact .of_end hend hhist hwords (CalBounds.nil.read _ _ _ _)
    · let u : State := { s.afterRead 0x00 1 with seq := .busy .calibrate (k + 1) }
      have hdelay := (step_busy rfl).trans (calibrateDelaysBeforePolls u (k + 1) rfl (by omega))
      let v : State := { u with
        seq := .busy .calibrate (k + 2), calState := CalState.polling.code, calAttempt := u.calAttempt + 1
        hist := u.hist ++ [.delay 200] }
      have hnext : v.calAttempt.toNat = s.calAttempt.toNat + 1 := toNat_calAttempt_add_one hlow.le
      rw [if_neg (by omega)] at hdelay
      have hrest := ih (s := v) rfl (by omega) (by omega) (by omega)
      have hdelayed : CalEnds u s.env.words (2 * polls + 2) 0 (polls + 1) (polls + 1) (200 + 200 * polls) :=
        .of_step hdelay rfl hrest fun h => h.delay 200
      rw [Nat.mul_add_one 200, Nat.add_comm (200 * polls)]
      exact .of_step hmore rfl hdelayed fun h => h.read _ _ _ _

/-- From its first step (R141, R142): the request, the settle delay and at most 100 polls. -/
theorem calEnds_calibrate {s : State} {ws : List (List Byte)} (hidle : s.seq = .idle)
    (hw : s.env.words = [0x30] :: ws) : CalEnds s ws 201 1 100 100 20100 := by
  let v := s.withWords ws
  have hfirst : step s = .next v.calRequest :=
    (step_first (i := .calibrate) hidle hw rfl).trans (exec_calibrate_idle hidle)
  obtain ⟨-, h⟩ | ⟨d, -, h⟩ := v.calRequest_cases
  · let t : State := { v.calBegin.afterWrite 0x00 [v.cfg.devModeFactory] with seq := .busy .calibrate 1 }
    have hrequest : step s = .next t := hfirst.trans (congrArg _ h)
    have hsettle : step t = _ := (step_busy rfl).trans (calibrateDelaysBeforePolls t 1 rfl rfl)
    have hpolls := calEnds_poll 99 (s := { t with
      seq := .busy .calibrate 2, calState := CalState.polling.code, calAttempt := t.calAttempt + 1
      hist := t.hist ++ [.delay 300] }) rfl (by decide) rfl rfl
    have hsettled : CalEnds t ws 200 0 100 100 20100 :=
      .of_step hsettle rfl hpolls fun h => h.delay 300
    exact .of_step hrequest rfl hsettled fun h => h.write _ _ _
  · have hend := hfirst.trans (congrArg _ (h.trans (State.raise_eq_endedWith _ _)))
    exact .of_end hend rfl rfl (CalBounds.nil.write _ _ _)

/-- Settles O31. -/
theorem calibrateAlwaysEnds : Obligations.CalibrateAlwaysEnds := by
  intro s ws hidle hw
  obtain ⟨n, t, evs, hn, hrun, htidle, hhist, hwords, hbounds⟩ := calEnds_calibrate hidle hw
  exact ⟨n, t, evs, hn, hrun, htidle, hhist, hwords, hbounds.writes, hbounds.reads, hbounds.delays, hbounds.ms⟩

end Sys2Proof.Machine
end

section
/-! PROOFS. Runs of the body of GET_COORDINATES (42_calibration.md R146, R147), which GESTURE_DETECT shares
(43_gesture.md R161): its empty counts, and GET_COORDINATES as a whole. -/

namespace Sys2Proof.Machine

/-! ### The state between two transfers of the body -/

/-- The command `cmd` after `n` transfers of its body: `s` with the registers `g`, the answers `script` left and the
history `hist`. -/
def State.during (s : State) (cmd : Instr) (n : Nat) (g : GestureRegs) (script : List BusAnswer) (hist : List Event) :
    State :=
  { s.withGesture g with
    seq := .busy cmd n
    env := { s.env with busScript := script, draws := s.env.draws + n }
    hist := hist }

/-- The event of a count read. -/
def countRead (c : Config) (o : ReadOutcome) : Event :=
  .busWriteRead c.devAddr [0x02] 1 o

/-- The event of a record read. -/
def recordRead (c : Config) (o : ReadOutcome) : Event :=
  .busWriteRead c.devAddr [0x03] 6 o

/-- `s` with another value in `SEQ`. -/
def State.setSeq (s : State) (q : Seq) : State :=
  { s with seq := q }

/-- A count read does not depend on `SEQ`. -/
theorem State.coordCount_setSeq (s : State) (q : Seq) :
    (s.setSeq q).coordCount = (s.coordCount.1, s.coordCount.2.setSeq q) := by
  have hcfg : (s.setSeq q).cfg = s.cfg := rfl
  have hreply : (s.setSeq q).busReply 1 = s.busReply 1 := rfl
  have hspent : ((s.setSeq q).afterRead regTouchStatus 1).countPoll.budgetSpent =
    (s.afterRead regTouchStatus 1).countPoll.budgetSpent := rfl
  rw [State.coordCount, State.coordCount, hreply]
  cases s.busReply 1 with
  | err d => rfl
  | ok b =>
    dsimp only
    rw [hcfg, hspent]
    split
    · rfl
    · split <;> rfl

/-- Nor does a record read. -/
theorem State.coordRecord_setSeq (s : State) (q : Seq) :
    (s.setSeq q).coordRecord = (s.coordRecord.1, s.coordRecord.2.setSeq q) := by
  have hreply : (s.setSeq q).busReply 6 = s.busReply 6 := rfl
  rw [State.coordRecord, State.coordRecord, hreply]
  cases s.busReply 6 <;> rfl

theorem State.coordTransfer_setSeq (s : State) (q : Seq) :
    (s.setSeq q).coordTransfer = (s.coordTransfer.1, s.coordTransfer.2.setSeq q) := by
  have hdue : (s.setSeq q).recordDue = s.recordDue := rfl
  rw [State.coordTransfer, State.coordTransfer, hdue, State.coordRecord_setSeq, State.coordCount_setSeq]
  split <;> rfl

/-- The step of either command sets `SEQ` itself. -/
theorem State.coordResume_setSeq (k : Nat) (s : State) (q : Seq) :
    State.coordResume k (s.setSeq q) = State.coordResume k s := by
  rw [State.coordResume_eq, State.coordResume_eq, State.coordTransfer_setSeq]
  obtain ⟨outcome, t⟩ := s.coordTransfer
  cases outcome <;> rfl

theorem State.gestureNext_setSeq (k : Nat) (s : State) (q : Seq) : (s.setSeq q).gestureNext k = s.gestureNext k := rfl

theorem State.gestureResume_setSeq (k : Nat) (s : State) (q : Seq) :
    State.gestureResume k (s.setSeq q) = State.gestureResume k s := by
  rw [State.gestureResume_eq, State.gestureResume_eq, State.coordTransfer_setSeq]
  obtain ⟨outcome, t⟩ := s.coordTransfer
  cases outcome <;> rfl

/-- A command whose body is that of GET_COORDINATES. -/
def hasBody (cmd : Instr) : Prop :=
  cmd = .getCoordinates ∨ cmd = .gestureDetect

/-! ### The poll budget -/

section Budget

variable {budget : Option { n : Nat // 1 ≤ n }} {polls : Nat}

/-- A budget is at least 1. -/
theorem budget_ne_zero : budget.map Subtype.val ≠ some 0 := by
  intro h
  obtain ⟨m, -, hm⟩ := Option.map_eq_some_iff.mp h
  exact absurd m.property (by rw [hm]; decide)

theorem budget_ne_of_lt (hleft : ∀ m, budget = some m → polls < m.val) : budget.map Subtype.val ≠ some polls := by
  intro h
  obtain ⟨m, hm, heq⟩ := Option.map_eq_some_iff.mp h
  exact (hleft m hm).ne' heq

theorem lt_of_budget_eq (hspent : budget.map Subtype.val = some (polls + 1)) (m) (hm : budget = some m) :
    polls < m.val := by
  rw [hm] at hspent
  exact Nat.lt_of_succ_le (Option.some.inj hspent).ge

end Budget

/-! ### The empty counts of the body -/

section Body

variable {s : State} {cmd : Instr} {n : Nat} {g : GestureRegs} {script : List BusAnswer} {hist : List Event} {b : Byte}

/-- A transfer after which the body goes on. -/
theorem step_of_more {s t : State} (hcmd : hasBody cmd) (hbusy : s.seq = .busy cmd n)
    (h : s.coordTransfer = (.more, t)) :
    step s = .next { t with seq := .busy cmd (n + 1) } := by
  obtain rfl | rfl := hcmd
  · rw [step_busy hbusy, exec_getCoordinates_busy hbusy, State.coordResume_eq, h]
    rfl
  · rw [step_busy hbusy, exec_gestureDetect_busy hbusy, State.gestureResume_eq, h]
    rfl

variable (hcmd : hasBody cmd) (hdue : g.recordDue = false)
include hcmd hdue

/-- An empty count with budget left. -/
theorem step_during_empty (hb : (s.during cmd n g script hist).busReply 1 = .ok #v[b]) (hempty : clampCount s.cfg b = 0)
    (hleft : s.cfg.coordPollBudget.map Subtype.val ≠ some (g.coordPolls + 1)) :
    step (s.during cmd n g script hist) =
      .next (s.during cmd (n + 1) { g with coordPolls := g.coordPolls + 1 } script.tail
        (hist ++ [countRead s.cfg (.ok [b])])) :=
  step_of_more hcmd rfl (State.coordTransfer_empty (s := s.during cmd n g script hist) hdue hb hempty hleft)

/-- A count that does not clamp to 0. -/
theorem step_during_touch (hb : (s.during cmd n g script hist).busReply 1 = .ok #v[b])
    (htouch : clampCount s.cfg b ≠ 0) :
    step (s.during cmd n g script hist) =
      .next (s.during cmd (n + 1) { g with coordPolls := g.coordPolls + 1, recordDue := true } script.tail
        (hist ++ [countRead s.cfg (.ok [b])])) :=
  step_of_more hcmd rfl (State.coordTransfer_touch (s := s.during cmd n g script hist) hdue hb htouch)

/-- Any number of empty counts below the budget (R146). -/
theorem runSteps_during_empty {zeros : List Byte} (hempty : ∀ b ∈ zeros, clampCount s.cfg b = 0)
    (hleft : ∀ m, s.cfg.coordPollBudget = some m → g.coordPolls + zeros.length < m.val) :
    runSteps zeros.length (s.during cmd n g (zeros.map (fun b => .ok [b]) ++ script) hist) =
      .next (s.during cmd (n + zeros.length) { g with coordPolls := g.coordPolls + zeros.length } script
        (hist ++ zeros.map fun b => countRead s.cfg (.ok [b]))) := by
  induction zeros generalizing n g hist with
  | nil => rw [List.map_nil, List.map_nil, List.append_nil]; rfl
  | cons b zeros ih =>
    rw [List.forall_mem_cons] at hempty
    rw [List.length_cons] at hleft
    have hfirst (m) (hm : s.cfg.coordPollBudget = some m) : g.coordPolls + 1 < m.val := by
      have := hleft m hm
      omega
    have hrest (m) (hm : s.cfg.coordPollBudget = some m) : g.coordPolls + 1 + zeros.length < m.val := by
      have := hleft m hm
      omega
    rw [List.map_cons, List.cons_append, List.length_cons,
      runSteps_succ (step_during_empty hcmd hdue (State.busReply_script_byte rfl) hempty.1 (budget_ne_of_lt hfirst)),
      List.tail_cons,
      ih (g := { g with coordPolls := g.coordPolls + 1 }) hdue hempty.2 hrest,
      List.map_cons, List.append_assoc, Nat.add_right_comm n, Nat.add_assoc n]
    dsimp only
    rw [Nat.add_right_comm g.coordPolls, Nat.add_assoc g.coordPolls]
    rfl

end Body

/-! ### GET_COORDINATES -/

theorem runSteps_congr {s u : State} {n : Nat} (h : step s = step u) (hn : n ≠ 0) : runSteps n s = runSteps n u := by
  cases n with
  | zero => contradiction
  | succ n => rw [runSteps, runSteps, h]

/-- The registers of `s` with `polls` counts made and no record read due. -/
def State.pollRegs (s : State) (polls : Nat) : GestureRegs :=
  ⟨false, polls, s.smpX, s.smpY, s.smpOk, s.smpN, s.smpIter⟩

section GetCoordinates

variable {s : State} {ws : List (List Byte)}

/-- GET_COORDINATES starts like a step between two of its transfers. -/
theorem step_getCoordinates_start (hidle : s.seq = .idle) (hw : s.env.words = [0x31] :: ws) :
    step s = step ((s.withWords ws).during .getCoordinates 0 (s.pollRegs 0) s.env.busScript s.hist) := by
  rw [step_first (i := .getCoordinates) hidle hw rfl, exec_getCoordinates_idle (s := s.withWords ws) hidle,
    step_busy rfl, exec_getCoordinates_busy rfl, ← State.coordResume_setSeq 0 _ (.busy .getCoordinates 0)]
  rfl

/-- GET_COORDINATES once it has polled `polls` empty counts, from `s`. -/
def State.polling (s : State) (polls : Nat) (script : List BusAnswer) (hist : List Event) : State :=
  s.during .getCoordinates polls (s.pollRegs polls) script hist

/-- The empty counts of GET_COORDINATES, from its first step on. -/
theorem runSteps_getCoordinates_zeros {zeros : List Byte} {script : List BusAnswer} {n : Nat} (hidle : s.seq = .idle)
    (hw : s.env.words = [0x31] :: ws) (hscript : s.env.busScript = zeros.map (fun b => .ok [b]) ++ script)
    (hempty : ∀ b ∈ zeros, clampCount s.cfg b = 0)
    (hleft : ∀ m, s.cfg.coordPollBudget = some m → zeros.length < m.val) (hn : n ≠ 0) :
    runSteps (zeros.length + n) s =
      runSteps n ((s.withWords ws).polling zeros.length script
        (s.hist ++ zeros.map fun b => countRead s.cfg (.ok [b]))) := by
  have hzeros := runSteps_during_empty (s := s.withWords ws) (cmd := .getCoordinates) (n := 0) (g := s.pollRegs 0)
    (script := script) (hist := s.hist) (.inl rfl) rfl hempty fun m hm => (Nat.zero_add _).trans_lt (hleft m hm)
  rw [runSteps_congr (step_getCoordinates_start hidle hw) (by omega), hscript, runSteps_add n hzeros, State.polling,
    Nat.zero_add]
  dsimp only [State.pollRegs]
  rw [Nat.zero_add]
  rfl

theorem step_polling_empty {polls : Nat} {b : Byte} {script : List BusAnswer} {hist : List Event}
    (hb : (s.polling polls script hist).busReply 1 = .ok #v[b]) (hempty : clampCount s.cfg b = 0)
    (hleft : s.cfg.coordPollBudget.map Subtype.val ≠ some (polls + 1)) :
    step (s.polling polls script hist) =
      .next (s.polling (polls + 1) script.tail (hist ++ [countRead s.cfg (.ok [b])])) :=
  step_during_empty (.inl rfl) rfl hb hempty hleft

theorem step_polling_touch {polls : Nat} {c : Byte} {script : List BusAnswer} {hist : List Event}
    (htouch : clampCount s.cfg c ≠ 0) :
    step (s.polling polls (.ok [c] :: script) hist) =
      .next (s.during .getCoordinates (polls + 1) { s.pollRegs (polls + 1) with recordDue := true } script
        (hist ++ [countRead s.cfg (.ok [c])])) :=
  step_during_touch (.inl rfl) rfl (State.busReply_script_byte rfl) htouch

theorem step_polling_record {n polls : Nat} {r : Vector Byte 6} {script : List BusAnswer} {hist : List Event} :
    step (s.during .getCoordinates n { s.pollRegs polls with recordDue := true } (.ok r.toList :: script) hist) =
      .next ({ s with
        recordDue := false
        coordPolls := polls
        env := { s.env with busScript := script, draws := s.env.draws + n + 1 }
        hist := hist ++ [recordRead s.cfg (.ok r.toList)] }.endedWith [] 0x00
        (.point (decodeTouch r).x (decodeTouch r).y)) := by
  let u := s.during .getCoordinates n { s.pollRegs polls with recordDue := true } (.ok r.toList :: script) hist
  have hr : u.busReply 6 = .ok r := State.busReply_script_ok rfl
  exact (step_busy rfl).trans ((getCoordinatesReadsRecord u n rfl rfl).1 r hr)

theorem step_polling_spent {polls : Nat} {b : Byte} {script : List BusAnswer} {hist : List Event}
    (hempty : clampCount s.cfg b = 0) (hspent : s.cfg.coordPollBudget.map Subtype.val = some (polls + 1)) :
    step (s.polling polls (.ok [b] :: script) hist) =
      .next ({ s with
        recordDue := false
        coordPolls := polls + 1
        env := { s.env with busScript := script, draws := s.env.draws + polls + 1 }
        hist := hist ++ [countRead s.cfg (.ok [b])] }.endedWith [] 0x08 .none) := by
  let u := s.polling polls (.ok [b] :: script) hist
  have hb : u.busReply 1 = .ok #v[b] := State.busReply_script_byte rfl
  exact (step_busy rfl).trans
    (((getCoordinatesCountReads u polls polls (.inr ⟨rfl, rfl, rfl⟩)).1 b hb).2.1 hempty hspent)

end GetCoordinates

/-- Settles O35. -/
theorem getCoordinatesWaitsForTouch : Obligations.GetCoordinatesWaitsForTouch := by
  intro s ws zeros c r rest hidle hw hscript hempty htouch hleft
  rw [runSteps_getCoordinates_zeros hidle hw hscript hempty hleft two_ne_zero,
    runSteps_succ (step_polling_touch (s := s.withWords ws) htouch), runSteps_one step_polling_record,
    State.endedWith_nil]
  simp only [State.endedWith, List.append_assoc]
  rfl

/-- Settles O36: the last of the counts uses up the budget. -/
theorem pollBudgetEndsTheWait : Obligations.PollBudgetEndsTheWait := by
  intro s ws zeros rest hidle hw hscript hempty hspent
  obtain rfl | ⟨zeros, b, rfl⟩ := List.eq_nil_or_concat' zeros
  · exact absurd hspent budget_ne_zero
  · rw [List.map_append, List.append_assoc, List.map_singleton, List.singleton_append] at hscript
    rw [List.length_append, List.length_singleton] at hspent ⊢
    rw [List.forall_mem_append] at hempty
    rw [runSteps_getCoordinates_zeros hidle hw hscript hempty.1 (lt_of_budget_eq hspent) one_ne_zero,
      runSteps_one (step_polling_spent (s := s.withWords ws) (hempty.2 b (List.mem_singleton_self b)) hspent),
      State.endedWith_nil, List.map_append, List.append_assoc]
    simp only [State.endedWith, List.append_assoc]
    rfl

/-- The answer of one byte that a device gives once its script is over. -/
theorem State.busReply_tail_byte {s : State} {b : Byte} (hscript : s.env.busScript = [])
    (htail : s.env.busTail = some (.ok [b])) : s.busReply 1 = .ok #v[b] := by
  rw [State.busReply, State.nextBusAnswer, hscript]
  dsimp only
  rw [htail]
  exact congrArg BusReply.ok (drawBytes_one b _)

/-- GET_COORDINATES after `n` empty counts from a device that answers nothing else (R147). -/
theorem runSteps_polling_forever {s : State} {b : Byte} {hist : List Event} (htail : s.env.busTail = some (.ok [b]))
    (hbudget : s.cfg.coordPollBudget = none) (hempty : clampCount s.cfg b = 0) (n : Nat) :
    runSteps n (s.polling 0 [] hist) =
      .next (s.polling n [] (hist ++ List.replicate n (countRead s.cfg (.ok [b])))) := by
  induction n with
  | zero => rw [List.replicate_zero, List.append_nil]; rfl
  | succ n ih =>
    have hleft : s.cfg.coordPollBudget.map Subtype.val ≠ some (n + 1) := by rw [hbudget]; nofun
    rw [runSteps_add 1 ih, runSteps_one (step_polling_empty (State.busReply_tail_byte rfl htail) hempty hleft),
      List.replicate_succ', ← List.append_assoc]
    rfl

/-- Settles O37. -/
theorem getCoordinatesCanSpinForever : Obligations.GetCoordinatesCanSpinForever := by
  intro s ws b hidle hw hscript htail hbudget hempty n hn
  have hstart := step_getCoordinates_start hidle hw
  rw [hscript] at hstart
  refine ⟨_, (runSteps_congr hstart (by omega)).trans
    (runSteps_polling_forever (s := s.withWords ws) htail hbudget hempty n), rfl, rfl, rfl⟩

end Sys2Proof.Machine
end

section
/-! PROOFS. Whole runs of GESTURE_DETECT (43_gesture.md R160 to R166): one iteration, nineteen of them, and what the
sample window holds in the end. -/

namespace Sys2Proof.Machine

/-! ### The registers of an iteration -/

/-- The entry that the sample of iteration `i` takes (43_gesture.md R160). -/
def GestureRegs.entry (g : GestureRegs) (p : DiscardPolicy) (i : Nat) : Nat :=
  match p with
  | .compact => g.smpN.toNat
  | .slotKeep => i

/-- The registers once iteration `i` has yielded this sample, if any. -/
def GestureRegs.take (g : GestureRegs) (p : DiscardPolicy) (i : Nat) : Option (Coord × Coord) → GestureRegs
  | none => g
  | some (x, y) => g.putSample (g.entry p i) i x y

/-- The registers at the start of the next iteration. -/
def GestureRegs.started (g : GestureRegs) : GestureRegs :=
  { g with recordDue := false, coordPolls := 0, smpIter := g.smpIter + 1 }

/-- The registers at the end of iteration `i`. -/
def GestureRegs.iterated (g : GestureRegs) (p : DiscardPolicy) (i : Nat) (it : Iteration) : GestureRegs :=
  GestureRegs.take { g with recordDue := false, coordPolls := it.polls } p i it.sample

theorem Iteration.answers_ne_nil {c : Config} {it : Iteration} (hfits : it.fits c) : it.answers ≠ [] := by
  cases it with
  | countFails zeros d => exact List.append_ne_nil_of_right_ne_nil _ (List.cons_ne_nil _ _)
  | budgetSpent zeros =>
    have hne : zeros ≠ [] := by
      rintro rfl
      exact budget_ne_zero hfits.2
    exact mt List.map_eq_nil_iff.mp hne
  | recordFails zeros c d => exact List.append_ne_nil_of_right_ne_nil _ (List.cons_ne_nil _ _)
  | touched zeros c r => exact List.append_ne_nil_of_right_ne_nil _ (List.cons_ne_nil _ _)

/-! ### The last transfer of an iteration -/

section Transfers

variable {s : State} {n : Nat} {g : GestureRegs} {script : List BusAnswer} {hist : List Event}

/-- A transfer that fails, or uses up the budget. -/
theorem step_during_failed {polls : Nat} {e : Event} {err : CmdError}
    (h : (s.during .gestureDetect n g script hist).coordTransfer =
      (.failed err,
        { (s.during .gestureDetect n g script hist).busDone e with recordDue := false, coordPolls := polls })) :
    step (s.during .gestureDetect n g script hist) =
      .next ((s.during .gestureDetect (n + 1) { g with recordDue := false, coordPolls := polls } script.tail
        (hist ++ [e, .sampleDiscarded (g.smpIter.toNat - 1)])).gestureNext n) := by
  rw [step_busy rfl, exec_gestureDetect_busy rfl, State.gestureResume_failed h,
    ← State.gestureNext_setSeq n _ (.busy .gestureDetect (n + 1))]
  rfl

/-- A record read that yields a sample. -/
theorem step_during_sampled {r : Vector Byte 6} (hdue : g.recordDue = true)
    (hr : (s.during .gestureDetect n g script hist).busReply 6 = .ok r) :
    step (s.during .gestureDetect n g script hist) =
      .next ((s.during .gestureDetect (n + 1)
        (GestureRegs.take { g with recordDue := false } s.cfg.sampleDiscardPolicy (g.smpIter.toNat - 1)
          (some ((decodeTouch r).x, (decodeTouch r).y))) script.tail
        (hist ++ [recordRead s.cfg (.ok r.toList)])).gestureNext n) := by
  rw [step_busy rfl, exec_gestureDetect_busy rfl, State.gestureResume_eq,
    State.coordTransfer_record (s := s.during .gestureDetect n g script hist) hdue hr,
    ← State.gestureNext_setSeq n _ (.busy .gestureDetect (n + 1))]
  rfl

theorem step_during_count_err {d : BusErrDetail} (hdue : g.recordDue = false) :
    step (s.during .gestureDetect n g (.err d :: script) hist) =
      .next ((s.during .gestureDetect (n + 1) { g with recordDue := false } script
        (hist ++ [countRead s.cfg (.err d), .sampleDiscarded (g.smpIter.toNat - 1)])).gestureNext n) :=
  step_during_failed (State.coordTransfer_count_err (s := s.during .gestureDetect n g (.err d :: script) hist) hdue
    (State.busReply_script_err 1 rfl))

theorem step_during_record_err {d : BusErrDetail} (hdue : g.recordDue = true) :
    step (s.during .gestureDetect n g (.err d :: script) hist) =
      .next ((s.during .gestureDetect (n + 1) { g with recordDue := false } script
        (hist ++ [recordRead s.cfg (.err d), .sampleDiscarded (g.smpIter.toNat - 1)])).gestureNext n) :=
  step_during_failed (State.coordTransfer_record_err (s := s.during .gestureDetect n g (.err d :: script) hist) hdue
    (State.busReply_script_err 6 rfl))

theorem step_during_spent {b : Byte} (hdue : g.recordDue = false) (hempty : clampCount s.cfg b = 0)
    (hspent : s.cfg.coordPollBudget.map Subtype.val = some (g.coordPolls + 1)) :
    step (s.during .gestureDetect n g (.ok [b] :: script) hist) =
      .next ((s.during .gestureDetect (n + 1) { g with recordDue := false, coordPolls := g.coordPolls + 1 } script
        (hist ++ [countRead s.cfg (.ok [b]), .sampleDiscarded (g.smpIter.toNat - 1)])).gestureNext n) :=
  step_during_failed (State.coordTransfer_spent (s := s.during .gestureDetect n g (.ok [b] :: script) hist) hdue
    (State.busReply_script_byte rfl) hempty hspent)

end Transfers

/-! ### One iteration -/

/-- `g` with `polls` counts made in the iteration. -/
def GestureRegs.polled (g : GestureRegs) (polls : Nat) : GestureRegs :=
  { g with coordPolls := polls }

/-- The events of the count reads that answered `counts`. -/
def countReads (c : Config) (counts : List Byte) : List Event :=
  counts.map fun b => countRead c (.ok [b])

/-- The iteration `it`, started with the registers `g`, runs to its end: as many steps as the device gives answers. -/
def IterationRuns (s : State) (g : GestureRegs) (it : Iteration) : Prop :=
  ∀ (n k : Nat) (script : List BusAnswer) (hist : List Event), k + 1 = n + it.answers.length →
    runSteps it.answers.length (s.during .gestureDetect n g (it.answers ++ script) hist) =
      .next ((s.during .gestureDetect (k + 1) (g.iterated s.cfg.sampleDiscardPolicy (g.smpIter.toNat - 1) it) script
        (hist ++ it.events s.cfg (g.smpIter.toNat - 1))).gestureNext k)

section OneIteration

variable {s : State} {g : GestureRegs} {zeros : List Byte} {c : Byte} (hdue : g.recordDue = false)
  (hpolls : g.coordPolls = 0)
include hdue hpolls

/-- The empty counts at the start of an iteration. -/
theorem runSteps_iteration_zeros (n : Nat) (script : List BusAnswer) (hist : List Event)
    (hkeeps : keepsPolling s.cfg zeros) :
    runSteps zeros.length (s.during .gestureDetect n g (zeros.map (fun b => .ok [b]) ++ script) hist) =
      .next (s.during .gestureDetect (n + zeros.length) (g.polled zeros.length) script
        (hist ++ countReads s.cfg zeros)) := by
  have hleft (m) (hm : s.cfg.coordPollBudget = some m) : g.coordPolls + zeros.length < m.val := by
    rw [hpolls, Nat.zero_add]
    exact hkeeps.2 m hm
  rw [runSteps_during_empty (.inr rfl) hdue hkeeps.1 hleft, hpolls, Nat.zero_add]
  rfl

/-- The empty counts, and then one that does not clamp to 0. -/
theorem runSteps_iteration_touch (n : Nat) (script : List BusAnswer) (hist : List Event)
    (hkeeps : keepsPolling s.cfg zeros) (htouch : clampCount s.cfg c ≠ 0) :
    runSteps (zeros.length + 1)
        (s.during .gestureDetect n g (zeros.map (fun b => .ok [b]) ++ .ok [c] :: script) hist) =
      .next (s.during .gestureDetect (n + zeros.length + 1)
        { g.polled (zeros.length + 1) with recordDue := true } script
        (hist ++ countReads s.cfg zeros ++ [countRead s.cfg (.ok [c])])) := by
  rw [runSteps_add 1 (runSteps_iteration_zeros hdue hpolls n _ hist hkeeps)]
  exact runSteps_one (step_during_touch (.inr rfl) (g := g.polled zeros.length) hdue
    (State.busReply_script_byte rfl) htouch)

theorem iterationRuns_countFails {d : BusErrDetail} (hkeeps : keepsPolling s.cfg zeros) :
    IterationRuns s g (.countFails zeros d) := by
  intro n k script hist hk
  obtain rfl : k = n + zeros.length := by simpa [Iteration.answers, ← Nat.add_assoc] using hk
  have hlast := step_during_count_err (s := s) (n := n + zeros.length) (g := g.polled zeros.length) (script := script)
    (hist := hist ++ countReads s.cfg zeros) (d := d) hdue
  rw [Iteration.answers, List.append_assoc, List.length_append, List.length_map,
    runSteps_add _ (runSteps_iteration_zeros hdue hpolls n _ hist hkeeps), Iteration.events, ← List.append_assoc]
  exact runSteps_one hlast

/-- The last of the counts uses up the budget. -/
theorem iterationRuns_budgetSpent (hempty : ∀ b ∈ zeros, clampCount s.cfg b = 0)
    (hspent : s.cfg.coordPollBudget.map Subtype.val = some zeros.length) : IterationRuns s g (.budgetSpent zeros) := by
  intro n k script hist hk
  obtain rfl | ⟨zeros, b, rfl⟩ := List.eq_nil_or_concat' zeros
  · exact absurd hspent budget_ne_zero
  · rw [List.length_append, List.length_singleton] at hspent
    rw [List.forall_mem_append, List.forall_mem_singleton] at hempty
    obtain rfl : k = n + zeros.length := by simpa [Iteration.answers, ← Nat.add_assoc] using hk
    have hkeeps : keepsPolling s.cfg zeros := ⟨hempty.1, lt_of_budget_eq hspent⟩
    have hlast := step_during_spent (s := s) (n := n + zeros.length) (g := g.polled zeros.length) (script := script)
      (hist := hist ++ countReads s.cfg zeros) hdue hempty.2 hspent
    rw [Iteration.answers, List.map_append, List.append_assoc, List.length_append, List.length_map,
      runSteps_add _ (runSteps_iteration_zeros hdue hpolls n _ hist hkeeps)]
    refine (runSteps_one hlast).trans ?_
    dsimp only [Iteration.events]
    rw [List.map_append, List.append_assoc, List.append_assoc, GestureRegs.iterated, Iteration.polls,
      List.length_append]
    rfl

theorem iterationRuns_recordFails {d : BusErrDetail} (hkeeps : keepsPolling s.cfg zeros)
    (htouch : clampCount s.cfg c ≠ 0) : IterationRuns s g (.recordFails zeros c d) := by
  intro n k script hist hk
  obtain rfl : k = n + zeros.length + 1 := by simpa [Iteration.answers, ← Nat.add_assoc] using hk
  have hlast := step_during_record_err (s := s) (n := n + zeros.length + 1)
    (g := { g.polled (zeros.length + 1) with recordDue := true }) (script := script)
    (hist := hist ++ countReads s.cfg zeros ++ [countRead s.cfg (.ok [c])]) (d := d) rfl
  rw [Iteration.answers, List.append_assoc, List.length_append, List.length_map]
  refine (runSteps_add 1 (runSteps_iteration_touch hdue hpolls n _ hist hkeeps htouch)).trans
    ((runSteps_one hlast).trans ?_)
  dsimp only [Iteration.events]
  rw [List.append_assoc, List.append_assoc]
  rfl

theorem iterationRuns_touched {r : Vector Byte 6} (hkeeps : keepsPolling s.cfg zeros)
    (htouch : clampCount s.cfg c ≠ 0) : IterationRuns s g (.touched zeros c r) := by
  intro n k script hist hk
  obtain rfl : k = n + zeros.length + 1 := by simpa [Iteration.answers, ← Nat.add_assoc] using hk
  have hlast := step_during_sampled (s := s) (n := n + zeros.length + 1)
    (g := { g.polled (zeros.length + 1) with recordDue := true }) (script := .ok r.toList :: script)
    (hist := hist ++ countReads s.cfg zeros ++ [countRead s.cfg (.ok [c])]) (r := r) rfl
    (State.busReply_script_ok rfl)
  rw [Iteration.answers, List.append_assoc, List.length_append, List.length_map]
  refine (runSteps_add 1 (runSteps_iteration_touch hdue hpolls n _ hist hkeeps htouch)).trans
    ((runSteps_one hlast).trans ?_)
  dsimp only [Iteration.events]
  rw [List.append_assoc, List.append_assoc]
  rfl

/-- Every iteration that the block can see, whatever it comes to. -/
theorem iterationRuns_of_fits {it : Iteration} (hfits : it.fits s.cfg) : IterationRuns s g it := by
  cases it with
  | countFails zeros d => exact iterationRuns_countFails hdue hpolls hfits
  | budgetSpent zeros => exact iterationRuns_budgetSpent hdue hpolls hfits.1 hfits.2
  | recordFails zeros c d => exact iterationRuns_recordFails hdue hpolls hfits.1 hfits.2
  | touched zeros c r => exact iterationRuns_touched hdue hpolls hfits.1 hfits.2

end OneIteration

end Sys2Proof.Machine
end

section
/-! PROOFS. The nineteen iterations of GESTURE_DETECT (43_gesture.md R160 to R166): what the sample window holds after
any number of them, and the whole command. -/

namespace Sys2Proof.Machine

/-! ### The sample window after some iterations -/

/-- The entries of the window. -/
def GestureRegs.slots (g : GestureRegs) : List (Coord × Coord) :=
  g.smpX.toList.zip g.smpY.toList

/-- What the registers hold after the iterations `done`. -/
structure GestureRegs.Took (g : GestureRegs) (p : DiscardPolicy) (done : List Iteration) : Prop where
  ok : ∀ i < 19, g.smpOk.getLsbD i = (done[i]?.bind Iteration.sample).isSome
  count : g.smpN = BitVec.ofNat 5 (done.filterMap Iteration.sample).length
  iter : g.smpIter = BitVec.ofNat 5 done.length
  compact : p = .compact → g.slots.take (done.filterMap Iteration.sample).length = done.filterMap Iteration.sample
  slotKeep : p = .slotKeep → ∀ i < 19, ∀ xy, done[i]?.bind Iteration.sample = some xy → g.slots[i]? = some xy

section Window

variable {g : GestureRegs} {p : DiscardPolicy} {done : List Iteration} {it : Iteration}

theorem GestureRegs.length_slots : g.slots.length = 19 := by
  rw [GestureRegs.slots, List.length_zip, Vector.length_toList, Vector.length_toList, Nat.min_self]

theorem GestureRegs.slots_putSample (entry i : Nat) (x y : Coord) :
    (g.putSample entry i x y).slots = g.slots.set entry (x, y) := by
  refine List.ext_getElem (by rw [List.length_set, length_slots, length_slots]) fun m hm hm' => ?_
  rw [length_slots] at hm
  simp only [slots, putSample, List.getElem_zip, Vector.getElem_toList, Vector.getElem_setIfInBounds, List.getElem_set]
  split <;> rfl

/-- At the entry of the command. -/
theorem GestureRegs.Took.nil (hok : g.smpOk = 0) (hn : g.smpN = 0) (hiter : g.smpIter = 0) : g.Took p [] where
  ok i _ := by rw [hok]; exact BitVec.getLsbD_zero
  count := hn
  iter := hiter
  compact _ := rfl
  slotKeep _ _ _ _ h := nomatch h

theorem length_samples_le (done : List Iteration) : (done.filterMap Iteration.sample).length ≤ done.length :=
  List.length_filterMap_le _ _

/-- The sample of the iteration after `done`. -/
theorem bind_sample_append (i : Nat) :
    (done ++ [it])[i]?.bind Iteration.sample =
      if i = done.length then it.sample else done[i]?.bind Iteration.sample := by
  obtain hlt | rfl | hgt := Nat.lt_trichotomy i done.length
  · rw [if_neg hlt.ne, List.getElem?_append_left hlt]
  · rw [if_pos rfl, List.getElem?_concat_length]
    rfl
  · rw [if_neg hgt.ne', List.getElem?_eq_none (by simpa using hgt), List.getElem?_eq_none hgt.le]

theorem bind_sample_length : done[done.length]?.bind Iteration.sample = none := by
  rw [List.getElem?_eq_none le_rfl]
  rfl

/-- The counter as a number: the sample of the next iteration goes there under Compact. -/
theorem GestureRegs.Took.toNat_smpN (h : g.Took p done) (hlen : done.length ≤ 19) :
    g.smpN.toNat = (done.filterMap Iteration.sample).length := by
  have := length_samples_le done
  rw [h.count, BitVec.toNat_ofNat, Nat.mod_eq_of_lt (by omega)]

/-- The bit of an iteration's sample. -/
theorem getLsbD_or_bit (ok : BitVec 19) {i j : Nat} (hi : i < 19) :
    (ok ||| 1#19 <<< j).getLsbD i = (ok.getLsbD i || decide (i = j)) := by
  have hbit : (1#19 <<< j).getLsbD i = decide (i = j) := by
    rw [BitVec.getLsbD_shiftLeft, BitVec.getLsbD_one]
    by_cases h : i = j
    · subst h
      simp [hi]
    · have : j ≤ i → i - j ≠ 0 := by omega
      simpa [h, hi] using this
  rw [BitVec.getLsbD_or, hbit]

theorem take_set_length {α : Type} {l : List α} {n : Nat} {a : α} (hn : n < l.length) :
    (l.set n a).take (n + 1) = l.take n ++ [a] := by
  rw [List.take_succ_eq_append_getElem (by rwa [List.length_set]), List.take_set_of_le le_rfl, List.getElem_set_self]

theorem GestureRegs.Took.iterated (h : g.Took p done) (hlen : done.length < 19) :
    (g.started.iterated p done.length it).Took p (done ++ [it]) := by
  have hiter : g.smpIter + 1 = BitVec.ofNat 5 (done ++ [it]).length := by
    rw [h.iter, List.length_append, List.length_singleton, BitVec.ofNat_add]
    rfl
  cases hsample : it.sample with
  | none =>
    have hsamples : (done ++ [it]).filterMap Iteration.sample = done.filterMap Iteration.sample := by
      rw [List.filterMap_append, List.filterMap_cons_none hsample]
      exact List.append_nil _
    have hbind (i : Nat) : (done ++ [it])[i]?.bind Iteration.sample = done[i]?.bind Iteration.sample := by
      rw [bind_sample_append, hsample]
      split
      · subst i
        exact bind_sample_length.symm
      · rfl
    rw [GestureRegs.iterated, hsample]
    exact {
      ok := fun i hi => (h.ok i hi).trans (by rw [hbind])
      count := h.count.trans (by rw [hsamples])
      iter := hiter
      compact := fun hp => by rw [hsamples]; exact h.compact hp
      slotKeep := fun hp i hi xy hxy => h.slotKeep hp i hi xy (by rw [← hbind, hxy]) }
  | some xy =>
    obtain ⟨x, y⟩ := xy
    have hsamples : (done ++ [it]).filterMap Iteration.sample = done.filterMap Iteration.sample ++ [(x, y)] := by
      rw [List.filterMap_append, List.filterMap_cons_some hsample]
      rfl
    have hn := h.toNat_smpN hlen.le
    have hle := length_samples_le done
    rw [GestureRegs.iterated, hsample]
    refine ⟨fun i hi => ?ok, ?count, hiter, fun hp => ?compact, fun hp i hi xy hxy => ?slotKeep⟩
    case ok =>
      rw [bind_sample_append, hsample]
      refine (getLsbD_or_bit _ hi).trans ?_
      split
      · rw [decide_eq_true ‹_›, Bool.or_true]
        rfl
      · rw [decide_eq_false ‹_›, Bool.or_false]
        exact h.ok i hi
    case count =>
      rw [hsamples, List.length_append, List.length_singleton, BitVec.ofNat_add, ← h.count]
      rfl
    case compact =>
      subst hp
      have hentry : (done.filterMap Iteration.sample).length < g.slots.length := by rw [length_slots]; omega
      rw [hsamples, List.length_append, List.length_singleton]
      refine (congrArg _ (slots_putSample _ _ _ _)).trans ?_
      change (g.slots.set g.smpN.toNat (x, y)).take _ = _
      rw [hn, take_set_length hentry, h.compact rfl]
    case slotKeep =>
      subst hp
      refine (congrArg (·[i]?) (slots_putSample _ _ _ _)).trans ?_
      change (g.slots.set done.length (x, y))[i]? = _
      rw [bind_sample_append, hsample] at hxy
      rw [List.getElem?_set, length_slots]
      split at hxy
      · next h' =>
        rw [if_pos h'.symm, if_pos hlen]
        exact hxy
      · next h' =>
        rw [if_neg (Ne.symm h')]
        exact h.slotKeep rfl i hi xy hxy

end Window

/-! ### Any number of iterations -/

/-- The events of the iterations `done`, in order. -/
def iterationEvents (c : Config) (done : List Iteration) : List Event :=
  done.zipIdx.flatMap fun (it, i) => it.events c i

theorem iterationEvents_append (c : Config) (done : List Iteration) (it : Iteration) :
    iterationEvents c (done ++ [it]) = iterationEvents c done ++ it.events c done.length := by
  rw [iterationEvents, List.zipIdx_append, List.flatMap_append, Nat.zero_add]
  exact congrArg _ (List.append_nil _)

section Runs

variable {s : State} {g₀ : GestureRegs} {p : DiscardPolicy} {hist : List Event}

/-- Taking a sample leaves the registers of the body. -/
theorem GestureRegs.take_coordPolls {g : GestureRegs} {i : Nat} (sample : Option (Coord × Coord)) :
    (g.take p i sample).coordPolls = g.coordPolls := by
  cases sample <;> rfl

theorem GestureRegs.take_recordDue {g : GestureRegs} {i : Nat} (sample : Option (Coord × Coord)) :
    (g.take p i sample).recordDue = g.recordDue := by
  cases sample <;> rfl

theorem GestureRegs.Took.toNat_smpIter {g : GestureRegs} {done : List Iteration} (h : g.Took p done)
    (hlen : done.length ≤ 19) : g.smpIter.toNat = done.length := by
  rw [h.iter, BitVec.toNat_ofNat, Nat.mod_eq_of_lt (by omega)]

/-- The iteration that follows `done`, from its start to `gestureNext`. -/
theorem runSteps_next_iteration {g : GestureRegs} {done : List Iteration} {it : Iteration} {script : List BusAnswer}
    (n k : Nat) (htook : g.Took s.cfg.sampleDiscardPolicy done) (hlen : done.length < 19) (hfits : it.fits s.cfg)
    (hk : k + 1 = n + it.answers.length) :
    ∃ g' : GestureRegs, g'.Took s.cfg.sampleDiscardPolicy (done ++ [it]) ∧ g'.coordPolls = it.polls ∧
      g'.recordDue = false ∧
      runSteps it.answers.length (s.during .gestureDetect n g.started (it.answers ++ script) hist) =
        .next ((s.during .gestureDetect (k + 1) g' script (hist ++ it.events s.cfg done.length)).gestureNext k) := by
  have hiter : g.started.smpIter.toNat - 1 = done.length := by
    have hcount := htook.toNat_smpIter hlen.le
    rw [show g.started.smpIter.toNat = g.smpIter.toNat + 1 from toNat_counter_add_one (by omega), hcount,
      Nat.add_sub_cancel]
  refine ⟨g.started.iterated s.cfg.sampleDiscardPolicy done.length it, htook.iterated hlen, ?polls, ?due, ?run⟩
  case polls => exact GestureRegs.take_coordPolls _
  case due => exact GestureRegs.take_recordDue _
  case run => rw [iterationRuns_of_fits rfl rfl hfits n k script hist hk, hiter]

/-- The iterations `done`, and the start of the next one. -/
theorem runSteps_iterations (hok : g₀.smpOk = 0) (hn : g₀.smpN = 0) (hiter : g₀.smpIter = 0) {done : List Iteration}
    (hlen : done.length < 19) (hfits : ∀ it ∈ done, it.fits s.cfg) (script : List BusAnswer) :
    ∃ g : GestureRegs, g.Took s.cfg.sampleDiscardPolicy done ∧
      runSteps (done.flatMap Iteration.answers).length
          (s.during .gestureDetect 0 g₀.started (done.flatMap Iteration.answers ++ script) hist) =
        .next (s.during .gestureDetect (done.flatMap Iteration.answers).length g.started script
          (hist ++ iterationEvents s.cfg done)) := by
  induction done using List.reverseRecOn generalizing script with
  | nil =>
    refine ⟨g₀, .nil hok hn hiter, ?_⟩
    rw [show iterationEvents s.cfg [] = [] from rfl, List.append_nil]
    rfl
  | append_singleton done it ih =>
    rw [List.length_append, List.length_singleton] at hlen
    rw [List.forall_mem_append, List.forall_mem_singleton] at hfits
    obtain ⟨g, htook, hrun⟩ := ih (by omega) hfits.1 (it.answers ++ script)
    have hpos : 0 < it.answers.length := List.length_pos_of_ne_nil (Iteration.answers_ne_nil hfits.2)
    let n := (done.flatMap Iteration.answers).length
    obtain ⟨k, hk⟩ : ∃ k, k + 1 = n + it.answers.length := ⟨n + it.answers.length - 1, by omega⟩
    obtain ⟨g', htook', -, -, hnext⟩ := runSteps_next_iteration (script := script)
      (hist := hist ++ iterationEvents s.cfg done) n k htook (by omega) hfits.2 hk
    have hmore : g'.smpIter.toNat < 19 := by
      rw [htook'.toNat_smpIter (by simp; omega)]
      simpa using hlen
    refine ⟨g', htook', ?_⟩
    rw [List.flatMap_append, List.flatMap_singleton, List.append_assoc, List.length_append, runSteps_add _ hrun, hnext,
      State.gestureNext_of_lt (s := s.during .gestureDetect (k + 1) g' script _) hmore, ← hk, iterationEvents_append,
      List.append_assoc]
    rfl

end Runs

/-! ### The whole command -/

/-- The registers of `s` with a cleared window, `xs` and `ys` for its free values. -/
def clearedRegs (s : State) (xs ys : Vector Coord 19) : GestureRegs :=
  ⟨s.recordDue, s.coordPolls, xs, ys, 0, 0, 0⟩

/-- GESTURE_DETECT starts like a step between two of its transfers. -/
theorem step_gestureDetect_start {s : State} {ws : List (List Byte)} (hidle : s.seq = .idle)
    (hw : s.env.words = [0x32] :: ws) (hunit : s.cfg.gestureFeature = true) :
    ∃ xs ys, step s = step ((s.withWords ws).during .gestureDetect 0 (clearedRegs s xs ys).started s.env.busScript
      s.hist) := by
  obtain ⟨xs, ys, henter⟩ := (s.withWords ws).exists_gestureStarted
  refine ⟨xs, ys, ?_⟩
  rw [step_first (i := .gestureDetect) hidle hw rfl, exec_gestureDetect_start (s := s.withWords ws) hidle hunit, henter,
    step_busy rfl, exec_gestureDetect_busy rfl, ← State.gestureResume_setSeq 0 _ (.busy .gestureDetect 0)]
  rfl

/-- The command as one run: it ends with the window that its nineteen iterations left. -/
theorem runSteps_gestureDetect {s : State} {ws : List (List Byte)} {its : List Iteration} {last : Iteration}
    {rest : List BusAnswer} (hidle : s.seq = .idle) (hw : s.env.words = [0x32] :: ws)
    (hunit : s.cfg.gestureFeature = true)
    (hscript : s.env.busScript = (its ++ [last]).flatMap Iteration.answers ++ rest)
    (hfits : ∀ it ∈ its ++ [last], it.fits s.cfg) (hlen : its.length = 18) :
    ∃ g : GestureRegs, g.Took s.cfg.sampleDiscardPolicy (its ++ [last]) ∧ g.coordPolls = last.polls ∧
      g.recordDue = false ∧
      let reads := ((its ++ [last]).flatMap Iteration.answers).length
      let t := (s.withWords ws).during .gestureDetect reads g rest (s.hist ++ iterationEvents s.cfg (its ++ [last]))
      runSteps reads s = .next (t.endedWith [] 0x00 (.gesture (gestureCode (swipeKind t.sampleSeq)))) := by
  rw [List.forall_mem_append, List.forall_mem_singleton] at hfits
  obtain ⟨xs, ys, hstart⟩ := step_gestureDetect_start hidle hw hunit
  obtain ⟨g, htook, hrun⟩ := runSteps_iterations (s := s.withWords ws) (g₀ := clearedRegs s xs ys) (hist := s.hist)
    rfl rfl rfl (hlen.trans_lt (by decide)) hfits.1 (last.answers ++ rest)
  have hpos : 0 < last.answers.length := List.length_pos_of_ne_nil (Iteration.answers_ne_nil hfits.2)
  let n := (its.flatMap Iteration.answers).length
  obtain ⟨k, hk⟩ : ∃ k, k + 1 = n + last.answers.length := ⟨n + last.answers.length - 1, by omega⟩
  obtain ⟨g', htook', hpolls, hdue, hlast⟩ := runSteps_next_iteration (s := s.withWords ws) (script := rest)
    (hist := s.hist ++ iterationEvents s.cfg its) n k htook (hlen.trans_lt (by decide)) hfits.2 hk
  have hall : (its ++ [last]).flatMap Iteration.answers = its.flatMap Iteration.answers ++ last.answers := by
    rw [List.flatMap_append, List.flatMap_singleton]
  have hcount : (its ++ [last]).length = 19 := by rw [List.length_append, hlen]; rfl
  have hroom : g'.smpN.toNat ≤ 19 := by
    rw [htook'.toNat_smpN hcount.le, ← hcount]
    exact length_samples_le _
  have hend := State.gestureNext_of_last (k := k) (s := (s.withWords ws).during .gestureDetect (k + 1) g' rest
    (s.hist ++ iterationEvents s.cfg its ++ last.events s.cfg its.length))
    ((htook'.toNat_smpIter hcount.le).trans hcount) fun _ => hroom
  refine ⟨g', htook', hpolls, hdue, ?_⟩
  rw [hall] at hscript ⊢
  rw [List.append_assoc] at hscript
  dsimp only
  rw [List.length_append, runSteps_congr hstart (by omega), hscript, runSteps_add _ hrun, iterationEvents_append,
    ← List.append_assoc, ← hk]
  exact hlast.trans (congrArg _ hend)

/-- The events of a vector of iterations, listed by their numbers. -/
theorem iterationEvents_toList (c : Config) (its : Vector Iteration 19) :
    iterationEvents c its.toList = (List.finRange 19).flatMap fun i : Fin 19 => its[i].events c i := by
  rw [iterationEvents, List.flatMap_def, List.flatMap_def]
  congr 1
  refine List.ext_getElem (by simp) fun m hm hm' => by simp

theorem State.sampleSeq_compact {s : State} (hp : s.cfg.sampleDiscardPolicy = .compact) :
    s.sampleSeq = (s.smpX.toList.zip s.smpY.toList).take s.smpN.toNat := by
  rw [State.sampleSeq, hp]

/-- Reading a slot of the window. -/
theorem GestureRegs.getElem_of_slots {g : GestureRegs} {i : Fin 19} {x y : Coord} (h : g.slots[i.val]? = some (x, y)) :
    g.smpX[i] = x ∧ g.smpY[i] = y := by
  simpa [slots, List.getElem?_zip_eq_some] using h

/-- Nineteen iterations, the last one apart. -/
theorem exists_toList_eq_concat (its : Vector Iteration 19) :
    ∃ init, its.toList = init ++ [its[18]] ∧ init.length = 18 := by
  refine ⟨its.toList.dropLast, ?_, by rw [List.length_dropLast, Vector.length_toList]⟩
  have hne : its.toList ≠ [] := List.ne_nil_of_length_pos (by rw [Vector.length_toList]; decide)
  rw [show its[18] = its.toList.getLast hne by simp [List.getLast_eq_getElem], List.dropLast_append_getLast]

/-- Settles O41. -/
theorem gestureClassifiesSwipe : Obligations.GestureClassifiesSwipe := by
  intro s ws its rest hidle hw hunit hscript hfits samples reads
  obtain ⟨init, hits, hlen⟩ := exists_toList_eq_concat its
  rw [hits] at hscript hfits
  obtain ⟨g, htook, hpolls, hdue, hrun⟩ := runSteps_gestureDetect hidle hw hunit hscript hfits hlen
  rw [← hits] at htook hrun
  have hsample (i : Fin 19) : its.toList[i.val]?.bind Iteration.sample = its[i].sample := by simp
  refine ⟨_, hrun, fun i => ?ok, fun hp => ?compact, fun hp i x y hxy => ?slotKeep, ?final⟩
  case ok => exact (htook.ok i i.isLt).trans (congrArg Option.isSome (hsample i))
  case compact =>
    have hn : g.smpN.toNat = samples.length := htook.toNat_smpN (by rw [Vector.length_toList])
    exact (State.sampleSeq_compact (by exact hp)).trans ((congrArg (g.slots.take ·) hn).trans (htook.compact hp))
  case slotKeep => exact GestureRegs.getElem_of_slots (htook.slotKeep hp i i.isLt _ ((hsample i).trans hxy))
  case final =>
    have hn : g.smpN = BitVec.ofNat 5 samples.length := htook.count
    have hiter : g.smpIter = 19 := htook.iter.trans (by rw [Vector.length_toList]; rfl)
    rw [State.endedWith_nil, iterationEvents_toList]
    simp only [State.endedWith, State.during, State.withGesture, State.withWords, hdue, hpolls, hn, hiter]
    rfl

theorem swipeKind_of_length_le_one {samples : List (Coord × Coord)} (h : samples.length ≤ 1) :
    swipeKind samples = .fault := by
  match samples, h with
  | [], _ => rfl
  | [xy], _ => simp [swipeKind, classify]

/-- Settles O42: one sample does not move against itself. -/
theorem gestureWithFewSamplesIsFault : Obligations.GestureWithFewSamplesIsFault := by
  intro s ws its rest hidle hw hunit hp hscript hfits hfew
  obtain ⟨t, hrun, hok, hcompact, -, hfinal⟩ := gestureClassifiesSwipe s ws its rest hidle hw hunit hscript hfits
  rw [hcompact hp, swipeKind_of_length_le_one hfew] at hfinal
  have hn : t.smpN.toNat = (its.toList.filterMap Iteration.sample).length := by
    rw [congrArg State.smpN hfinal]
    exact (BitVec.toNat_ofNat _ _).trans (Nat.mod_eq_of_lt (by omega))
  exact ⟨t, hrun, congrArg State.seq hfinal, congrArg State.status hfinal, congrArg State.result hfinal, hn,
    congrArg State.smpIter hfinal, hok, congrArg State.hist hfinal⟩

end Sys2Proof.Machine
end
